-- ==== Sys2Proof/Word.lean ====
section
/-! DEFINITION. Bytes, words and the order number: the types every file uses. -/

namespace Sys2Proof

/-- One byte, the smallest unit of every layout (R202). -/
abbrev Byte := BitVec 8

/-- A 16-bit value: engine codes, rule codes and masks (R51, R207). -/
abbrev Word16 := BitVec 16

/-- A 32-bit value: tags, card status, RAW arguments (R1, R81, R82). -/
abbrev Word32 := BitVec 32

/-- A run of bytes in the order the link or a device carries them. -/
abbrev Bytes := List Byte

/-- The number of an order record, 0 to 15 (R1). -/
abbrev OrderNo := Fin 16

end Sys2Proof
end

