-- ==== Sys2Proof/Syntax.lean ====
section
/-! DEFINITION. The commands of the part: one constructor for each row of spec/opcode_table.json, with what the outside world decides at that moment as operands. -/

namespace Sys2Proof

/-- The four card slots (R71). -/
inductive Slot where
  | a | b | c | d
  deriving DecidableEq, Repr

/-- The two print engines (R130). -/
inductive EngineNo where
  | one | two
  deriving DecidableEq, Repr

/-- The causes of an engine's FAULT, in the order of R130 and R207. -/
inductive FaultCause where
  | paperOut | ribbonOut | jam | headTemp | dataError | other
  deriving DecidableEq, Repr

/-- The training steps that can fail (R26). -/
inductive TrainStep where
  | ioCalibrate | initialise | readWindow
  deriving DecidableEq, Repr

/-- What is wrong with a DRAM word under ECC: one bit, corrected, or two bits, only detected (R25). -/
inductive EccErr where
  | single | double
  deriving DecidableEq, Repr

/-- A bit error that a DRAM word has acquired by the time an access reads it: the window offset of a byte of the word, and how many bits are wrong (R39, R40). Log 6. -/
structure Upset where
  offset : Nat
  err    : EccErr
  deriving DecidableEq, Repr

/-- The two rule images (R49). -/
inductive ImageName where
  | active | pending
  deriving DecidableEq, Repr

/-- A stored bit of a rule entry that has flipped, so that the entry's parity is bad (R67): the image, the entry's index, and the bit of its 12 bytes, bit 0 the least significant bit of byte 0. Log 6. -/
structure ParityFlip where
  image : ImageName
  index : Nat
  bit   : Nat
  deriving DecidableEq, Repr

/-- A message received from an engine: its bytes, check value included (R131, R207). -/
structure EngineRx where
  engine : EngineNo
  bytes  : Bytes
  deriving DecidableEq, Repr

/-- A drain of slot's write buffer: how many pieces of its oldest block are written before another command comes (R45, R100). Log 26. -/
structure DrainRun where
  slot  : Slot
  count : Nat
  deriving DecidableEq, Repr

/-- A card's response to the command it was sent (R79 to R82, R86). -/
inductive CardAnswer where
  /-- The response fails its check. -/
  | damaged
  /-- The response answers another command. -/
  | wrongCommand
  /-- The response reports the card's own error indication. -/
  | cardError
  /-- The response to a command that returns nothing: the bus-state reset, a read, a write. -/
  | ack
  /-- The readiness enquiry answered: not ready yet. -/
  | notReady
  /-- The readiness enquiry answered: ready. -/
  | ready
  /-- The identification record, the capacity in blocks and the addressing byte as the card gives them. -/
  | identity (record : Bytes) (capacity : Word32) (addressing : Byte)
  /-- The card's status value. -/
  | status (value : Word32)
  /-- The response bytes of a RAW command. -/
  | raw (response : Bytes)
  deriving DecidableEq, Repr

/-- One command. A row's rule in opcode_table.json is named in the meaning's docstring. The rows of messages from an engine carry the message's bytes, check value included, ENGINE_TRANSIT_UP in header, body and check value (R207); WRITE_BUFFER_DRAIN carries how many pieces are written before another command comes between (R45, log 26). -/
inductive Instr where
  | powerOn
  | resetLineLow
  | resetLineHigh
  | idleSymbol
  | otherSymbolAligning (decoded : Bool)
  | linkTimerExpiry
  | pauseSymbolReceived
  | resumeSymbolReceived
  | frameReceive (bytes : Bytes) (allDecoded : Bool)
  | badHeaderFrame
  | misroutedFrame
  | unknownRequest
  | frameSendStart
  | frameSendEnd
  | upstreamPlaceWaiting
  | identifyPart
  | configure
  | resetPart
  | readBank
  | clearBank
  | setBankMask
  | clearFault
  | openOrder
  | bindSlot
  | unbindSlot
  | cancelOrder
  | closeOrder
  | readOrder
  | resolvePayment
  | growWindow
  | readPool
  | loadRules
  | loadPrices
  | loadSlotProfile
  | loadEngineProfile
  | loadPaymentProfile
  | discardPending
  | readImage (flips : List ParityFlip)
  | commitTables
  | submitItem
  | resumeItem
  | withdrawItem
  | readEngine
  | bulkRead
  | bulkWrite
  | bulkAccessComplete (upsets : List Upset)
  | trainingSucceeded
  | trainingFailed (at_ : TrainStep)
  | scrubStart
  | scrubComplete (clean : Bool)
  | cardDetectChange (slot : Slot) (present : Bool)
  | cardInsertion (slot : Slot) (locked : Bool)
  | cardRemoval (slot : Slot) (flips : List ParityFlip)
  | cardIdentify (flips : List ParityFlip)
  | cardStatus (flips : List ParityFlip)
  | cardReadToLink (flips : List ParityFlip)
  | cardReadStaged (flips : List ParityFlip)
  | cardWriteRequest (locked : Bool) (flips : List ParityFlip)
  | cardRaw (locked : Bool) (flips : List ParityFlip)
  | writeDataFrame
  | busGrant
  | cardCommandResponse (answer : CardAnswer) (locked : Bool) (flips : List ParityFlip)
  | cardBlockReceived (data : Bytes) (checkOk : Bool) (flips : List ParityFlip)
  | cardCheckToken (accepted : Bool) (flips : List ParityFlip)
  | cardBusyRelease (flips : List ParityFlip)
  | cardResponseTimeout (flips : List ParityFlip)
  | cardBlockTimeout (flips : List ParityFlip)
  | identifyReadyTimeout (flips : List ParityFlip)
  | writeBufferDrain (drain : DrainRun)
  | stagedReadComplete (slot : Slot) (flips : List ParityFlip)
  | schedulerSearch
  | queueHeadTake (engine : EngineNo)
  | engineSendStart (engine : EngineNo)
  | engineSendDone (engine : EngineNo)
  | engineMessageBegin (engine : EngineNo)
  | engineMessageMalformed (rx : EngineRx)
  | credit (engine : EngineNo) (bytes : Bytes)
  | bandReadEnd (engine : EngineNo) (upsets : List Upset)
  | printed (rx : EngineRx)
  | fault (engine : EngineNo) (bytes : Bytes)
  | abandoned (rx : EngineRx)
  | engineResponseTimeout (engine : EngineNo)
  | pageTimeout (engine : EngineNo)
  | engineIdleTimeout (engine : EngineNo)
  | engineStatusReport (engine : EngineNo) (bytes : Bytes)
  | engineTransitUp (engine : EngineNo) (head body check : Bytes) (flips : List ParityFlip)
  | engineTransitDown (flips : List ParityFlip)
  | paymentTransitDown (left : Nat) (flips : List ParityFlip)
  | paymentMessageSent
  | paymentRxByte (byte : Byte) (damaged : Bool)
  | framerTakeByte
  | interByteTimeout
  | resyncIdleGap
  | terminalMessageComplete (flips : List ParityFlip)
  | paymentTimeout
  | cardCommandSent (flips : List ParityFlip)
  | frameGrowsPastLimit
  deriving DecidableEq, Repr

end Sys2Proof
end

