-- ==== Sys2Proof/Config.lean ====
section
/-! DEFINITION. What an implementation fixes, the capacities of the part, and the free values. -/

namespace Sys2Proof.Config

/-- The fixed code of the Sezmar K316, as IDENTIFY_PART carries it (R197). The manual gives neither its value nor its width: a constant without a body. Log 44. -/
opaque partIdentifier : Bytes

/-- Which of the revisions 1 to 255 this silicon is, less one (R197). Log 44. -/
opaque revisionLessOne : Fin 255

/-- FREE VALUE. The request code in the answer to a request whose payload is too short to hold one (R195, R204), applied to the counter of free values. Log 12. -/
opaque missingCode : Nat → Word16

/-- FREE VALUE. The level of a lock switch at the taking of an insertion that waited for the old card's read, where no command carries it (R73, R105), applied to the counter of free values. Log 78. -/
opaque lockLevel : Nat → Bool

/-- A staging page (Conventions). -/
def pageBytes : Nat := 65536

/-- A card block (Conventions). -/
def blockBytes : Nat := 512

/-- The longest frame: header, payload and trailer (R187, R188). -/
def frameLimit : Nat := 2060

/-- Places of the downstream buffer (R188). -/
def downLimit : Nat := 8

/-- Places of the upstream queue (R192). -/
def upLimit : Nat := 16

/-- Places of the notice queue (R199). -/
def noticeLimit : Nat := 64

/-- Where 16-bit counts stay: lost notices, corrected errors, copies wasted (R199, R176, R113). -/
def countLimit : Nat := 65535

/-- IDLE symbols that take the link to UP (R193). -/
def alignLimit : Nat := 32

/-- The largest page map (R34). -/
def windowLimit : Nat := 2048

/-- The longest print list (R4). -/
def itemLimit : Nat := 32

/-- The longest engine queue (R122). -/
def queueLimit : Nat := 8

/-- The most credits held (R135). -/
def creditLimit : Nat := 4

/-- The most blocks in a write buffer (R100). -/
def bufferLimit : Nat := 4

/-- The size of each payment FIFO, and the longest terminal message (R152, R153). -/
def fifoLimit : Nat := 256

/-- The largest amount (R5). -/
def amountLimit : Nat := 999999999999

/-- The largest unit price (R63). -/
def priceLimit : Nat := 9999999

/-- The last block count a BYTE-addressed card may report (R80). -/
def byteCardLimit : Nat := 8388608

/-- The divider that gives the 400 kHz bus clock (R84). -/
def slowDivider : Nat := 250

end Sys2Proof.Config
end

