-- ==== Sys2Proof/Machine/State.lean ====
section
/-! DEFINITION. The state of the part as plain data, the reasons the model can stop, and the part right after power-on. -/

namespace Sys2Proof.Machine

/-! ## Names -/

/-- The part states, in the order of R196. -/
inductive PartState where
  | unconfigured | training | running | halted
  deriving DecidableEq, Repr

/-- The link states (R193). -/
inductive LinkState where
  | down | aligning | up
  deriving DecidableEq, Repr

/-- The control symbols the part sends about its own buffer (R190). -/
inductive CtlSymbol where
  | pause | resume
  deriving DecidableEq, Repr

/-- The two queues of the transmitter (R191). -/
inductive Supplier where
  | upstream | notices
  deriving DecidableEq, Repr

/-- The status codes of RESPONSE and REFUSAL frames (Status codes, file 10). -/
inductive Status where
  | ok | badFrame | badRequest | notReady | halted | busy | barrierPending | tableInvalid
  | rulesInvalid | refusedByRule | permitMissing | noOrder | orderState | orderTableFull
  | notBound | slotState | slotBusy | outOfMedia | cardLocked | chainInvalid | poolEmpty
  | windowLimit | outOfWindow | dataPoisoned | itemLimit | itemState | portBusy | terminalBusy
  | payState | amountLimit | amountInvalid | unsettled | resolveInvalid
  deriving DecidableEq, Repr

/-- The completion statuses of card requests (Status codes, file 10). -/
inductive CompletionStatus where
  | done | shortChain | mediaRemoved | cardTimeout | cardDataError
  deriving DecidableEq, Repr

/-- The frame kinds the part sends (R187). -/
inductive UpKind where
  | response | transit | refusal | notice | data
  deriving DecidableEq, Repr

/-- The notice kinds (R208). -/
inductive NoticeKind where
  | partState | slotEvent | itemEvent | creditShort | paymentEvent | engineEvent
  | orderReleased | poolLow | fault
  deriving DecidableEq, Repr

/-- The order states, in the order of R1. -/
inductive OrderState where
  | free | open_ | cancelling | cancelled | closing
  deriving DecidableEq, Repr

/-- The item states, in the order of R4. -/
inductive ItemState where
  | pending | queued | printing | held | done | withdrawn
  deriving DecidableEq, Repr

/-- The engine choice of an item (R113). -/
inductive EngineChoice where
  | either | only (e : EngineNo)
  deriving DecidableEq, Repr

/-- The pay states, in the order of R5. -/
inductive PayState where
  | none_ | requested | authorised | declined | capturePending | captured | voidPending
  | voided | refundPending | unknown
  deriving DecidableEq, Repr

/-- The payment request classes: the pending and lost classes (R5, R158). -/
inductive PayClass where
  | authorise | capture | void_ | refund
  deriving DecidableEq, Repr

/-- The payment outcome classes of UP entries (R51). -/
inductive OutcomeClass where
  | approved | declined | captured | voided | refunded | terminalError
  deriving DecidableEq, Repr

/-- Why an outcome made an order UNKNOWN, in the order of R169. -/
inductive UnknownCause where
  | wrongClass | amountAboveRequest | amountMismatch | amountUnreadable | timeout
  deriving DecidableEq, Repr

/-- The targets of RESOLVE_PAYMENT (R167). -/
inductive ResolveTarget where
  | none_ | declined | authorised | captured | voided | refunded
  deriving DecidableEq, Repr

/-- The eight ports of the Rule Unit, in the order of R57. -/
inductive Port where
  | slotPort (x : Slot) | enginePort (e : EngineNo) | payDown | payUp
  deriving DecidableEq, Repr

/-- The six card requests, in the order of their kind byte (R205). -/
inductive CardKind where
  | identify | readLink | readStaged | write | status | raw
  deriving DecidableEq, Repr

/-- What a card counts its addresses in (R71). -/
inductive Addressing where
  | byte | block
  deriving DecidableEq, Repr

/-- The base states of a slot that is not EMPTY (R71). -/
inductive Base where
  | present | ready | error
  deriving DecidableEq, Repr

/-- The slot states, in the order of R71. -/
inductive SlotState where
  | empty | present | ready | busy | error
  deriving DecidableEq, Repr

/-- The phases of a request that has been let in (R71). -/
inductive Phase where
  | collecting | waiting | onBus
  deriving DecidableEq, Repr

/-- The engine states, in the order of R130. -/
inductive EngineState where
  | offline | idle | opening | streaming | closing | abandoning | faulted
  deriving DecidableEq, Repr

/-- The engine timers (R130). -/
inductive TimerKind where
  | response | page
  deriving DecidableEq, Repr

/-! ## Error banks (R173, R174) -/

/-- The six banks, numbered in this order (R173). -/
inductive BankName where
  | link | card | staging | print | payment | tables
  deriving DecidableEq, Repr

/-- The causes of all banks (R174). -/
inductive Cause where
  | frameCrc | overrun | badHeader
  | cardTimeout | cardCrcRetry | cardDataError | cardProtocol
  | eccCorrected | scrubVerify | eccUncorrected | trainingFailed
  | engineTimeout | engineProtocol | bandSourcePoisoned
  | rxOverflow | messageMalformed | lateOutcome
  | ruleParity
  deriving DecidableEq, Repr

/-- The units that meet errors (R174). -/
inductive ErrUnit where
  | link | slot (x : Slot) | smc | engine (e : EngineNo) | paymentLine | ruleUnit
  deriving DecidableEq, Repr

/-- The operations errors are met in (R174). -/
inductive ErrOp where
  | receive
  | cardOp (k : CardKind) | prefetch
  | bulkRead | bandRead | writeMerge | scrub | train (t : TrainStep)
  | engineIn (st : EngineState)
  | matchIn (i : ImageName)
  deriving DecidableEq, Repr

/-- Unit, operation and cause (R173). -/
structure ErrCode where
  unit  : ErrUnit
  op    : ErrOp
  cause : Cause
  deriving DecidableEq, Repr

/-- The address kinds of R174. -/
inductive ErrAddr where
  | cardBlock (n : Nat) | window (offset page : Nat) | page (n : Nat) | band (k : Nat) | rule (i : Nat)
  deriving DecidableEq, Repr

/-- The contents of a VALID bank record (R173). -/
structure ErrRec where
  overflow    : Bool
  uncorrected : Bool
  enabled     : Bool
  order       : Option OrderNo
  addr        : Option ErrAddr
  code        : ErrCode
  deriving DecidableEq, Repr

/-- A bank: its record (absent is VALID NO), its mask with bit i for the i-th cause of R174, and its corrected count (R173). -/
structure Bank where
  record : Option ErrRec
  mask   : BitVec 8
  count  : Nat
  deriving DecidableEq, Repr

/-! ## The Order Link (R187 to R200) -/

/-- A received frame as it stands in the downstream buffer (R187, R204). -/
structure DownFrame where
  chan    : Nat
  kind    : Nat
  order   : Byte
  flags   : Nat
  length  : Nat
  tag     : Word32
  payload : Bytes
  deriving DecidableEq, Repr

/-- A frame the part sends (R187). -/
structure UpFrame where
  chan    : Nat
  kind    : UpKind
  order   : Byte
  fip     : Bool
  tag     : Word32
  payload : Bytes
  deriving DecidableEq, Repr

/-- What continues when a waiting frame is placed (R192). -/
inductive Waiter where
  | cardData (x : Slot) | cardDone (x : Slot) | stagedDone (x : Slot)
  | engineUp (e : EngineNo) | payUp | commit
  deriving DecidableEq, Repr

/-- A frame waiting for room in the upstream queue (R192). -/
structure WaitFrame where
  owner : Waiter
  frame : UpFrame
  deriving DecidableEq, Repr

/-- A notice in its queue (R199). -/
structure Notice where
  kind  : NoticeKind
  order : Option OrderNo
  fip   : Bool
  body  : Bytes
  deriving DecidableEq, Repr

/-- The frame the transmitter is sending: its queue and its bytes (R191, R200). -/
structure Sending where
  source : Supplier
  wire   : Bytes
  deriving DecidableEq, Repr

/-- The Link Controller's own state. -/
structure Link where
  state        : LinkState
  alignCount   : Nat
  timer        : Option Nat
  discarding   : Bool
  downBuf      : List DownFrame
  upQueue      : List UpFrame
  waiting      : List WaitFrame
  notices      : List Notice
  lost         : Nat
  rxPaused     : Bool
  txHeld       : Bool
  sending      : Option Sending
  lastSupplier : Supplier
  ctlOut       : List CtlSymbol
  deriving DecidableEq, Repr

/-! ## Orders (R1, R4, R5, R6, R113) -/

/-- The permits of an order (R3). -/
structure Permits where
  cardWrite     : Bool
  engineService : Bool
  paymentRefund : Bool
  deriving DecidableEq, Repr

/-- One entry of a page map (R34). -/
structure MapEntry where
  page     : Nat
  poisoned : Bool
  deriving DecidableEq, Repr

/-- One item of a print list (R113). Its index is its position. -/
structure Item where
  choice    : EngineChoice
  cls       : Nat
  price     : Nat
  media     : Nat
  copies    : Nat
  delivered : Nat
  wasted    : Nat
  offset    : Nat
  skip      : Nat
  width     : Nat
  rows      : Nat
  bandRows  : Nat
  state     : ItemState
  deriving DecidableEq, Repr

/-- The payment record (R5). -/
structure PayRec where
  state      : PayState
  authorised : Nat
  captured   : Nat
  refunded   : Nat
  lost       : Option PayClass
  deriving DecidableEq, Repr

/-- The fault record of an order (R6). -/
structure FaultRec where
  code   : ErrCode
  offset : Nat
  deriving DecidableEq, Repr

/-- An order record with its short-notice flag (R1, R119). Its number is its index. -/
structure Order where
  state      : OrderState
  tag        : Word32
  permits    : Permits
  slot       : Option Slot
  map        : List MapEntry
  awaiting   : Nat
  items      : List Item
  pay        : PayRec
  faultRec   : Option FaultRec
  shortArmed : Bool
  deriving DecidableEq, Repr

/-! ## Staging memory (R24 to R48) -/

/-- What CONFIGURE fixes of the DRAM (R24): the size in MiB, the ECC mode, the speed grade 1 to 3. -/
structure Geometry where
  size  : Nat
  ecc   : Bool
  grade : Nat
  deriving DecidableEq, Repr

/-- An entry of the scrub queue (R31). -/
structure ScrubEntry where
  page  : Nat
  order : Option OrderNo
  deriving DecidableEq, Repr

/-- What a bulk request does (R43, R44). -/
inductive BulkKind where
  | read (length : Nat) | write (data : Bytes)
  deriving DecidableEq, Repr

/-- A bulk request being carried out; the result is present once the access has been made. -/
structure BulkReq where
  tag    : Word32
  order  : OrderNo
  offset : Nat
  kind   : BulkKind
  result : Option (Status × Bytes)
  deriving DecidableEq, Repr

/-- The DRAM's bytes: address and byte, addresses strictly rising, no byte zero. -/
abbrev Memory := List Host.Cell

/-- The SMC's state. -/
structure Smc where
  geometry    : Option Geometry
  linkTimeout : Nat
  threshold   : Nat
  trained     : Bool
  freePool    : List Nat
  scrubQ      : List ScrubEntry
  scrubbing   : Bool
  retired     : List Nat
  dram        : Memory
  ecc         : List (Nat × EccErr)
  bulk        : Option BulkReq
  deriving DecidableEq, Repr

/-! ## The Rule Unit (R49 to R70) -/

/-- A rule entry as its 12 bytes say (R51, R206), with the parity flag of R67: fields are stored as they arrive. -/
structure RuleEntry where
  direction   : Nat
  portClass   : Nat
  requestKind : Nat
  action      : Nat
  code        : Word16
  mask        : Word16
  payClass    : Nat
  amtOffset   : Nat
  amtWidth    : Nat
  amtFormat   : Nat
  good        : Bool
  deriving DecidableEq, Repr

/-- A price class (R49). -/
structure Price where
  unit  : Nat
  media : Nat
  deriving DecidableEq, Repr

/-- A slot profile (R59). -/
structure SlotProfile where
  divider  : Nat
  response : Nat
  block    : Nat
  depth    : Nat
  deriving DecidableEq, Repr

/-- An engine profile (R59), in seconds. -/
structure EngineProfile where
  response : Nat
  page     : Nat
  deriving DecidableEq, Repr

/-- The payment profile (R59); framing 0 is LENGTH_PREFIXED, 1 is DELIMITED. -/
structure PayProfile where
  baud       : Nat
  framing    : Nat
  lenOffset  : Nat
  lenWidth   : Nat
  lenAdjust  : Int
  startByte  : Byte
  endByte    : Byte
  trailing   : Nat
  codeOffset : Nat
  codeWidth  : Nat
  timeout    : Nat
  deriving DecidableEq, Repr

/-- A rule image (R49). -/
structure Image where
  rules   : List RuleEntry
  prices  : Vector Price 16
  slots   : Vector SlotProfile 4
  engines : Vector EngineProfile 2
  pay     : PayProfile
  deriving DecidableEq, Repr

/-- A barrier in progress (R49, R64, R68). -/
structure Barrier where
  switched : List Port
  tag      : Word32
  order    : Byte
  newValid : Bool
  deriving DecidableEq, Repr

/-- The Rule Unit's state. -/
structure RuleUnit where
  active     : Image
  gen        : Nat
  valid      : Bool
  pendingImg : Image
  barrier    : Option Barrier
  deriving DecidableEq, Repr

/-! ## Card slots, the card bus and the Chain Engine (R71 to R112) -/

/-- How a request leaves its slot (R72). -/
inductive EndHow where
  | kept | identified (capacity : Nat) (addressing : Addressing) | toError
  deriving DecidableEq, Repr

/-- A request that a slot has let in (R71, R77), with its progress. -/
structure CardReq where
  kind     : CardKind
  tag      : Word32
  gen      : Nat
  start    : Nat
  count    : Nat
  phase    : Phase
  rawIndex : Nat
  rawArg   : Word32
  rawLen   : Nat
  done     : Nat
  gathered : List Bytes
  action   : Option Bool
  finish   : Option EndHow
  deriving DecidableEq, Repr

/-- The prefetch buffer (R71). -/
structure PrefetchBuf where
  start  : Nat
  blocks : List Bytes
  deriving DecidableEq, Repr

/-- A prefetch, PENDING or RUNNING, with the profile it took when it was begun (R109). -/
structure Prefetch where
  running : Bool
  start   : Nat
  target  : Nat
  profile : SlotProfile
  deriving DecidableEq, Repr

/-- The debounce of a card-detect input (R73, R74). One that has ended is an insertion that waits for the old card's read (R105). -/
inductive Debounce where
  | idle | running (start : Nat) | ended
  deriving DecidableEq, Repr

/-- A slot record (R71) with its card-detect input. -/
structure SlotRec where
  base       : Option Base
  bound      : Option OrderNo
  capacity   : Option Nat
  addressing : Option Addressing
  lock       : Option Bool
  request    : Option CardReq
  buf        : Option PrefetchBuf
  prefetch   : Option Prefetch
  staging    : Option (List Bytes)
  pin        : Bool
  debounce   : Debounce
  deriving DecidableEq, Repr

/-- A command on the card bus (R79 to R82, R86). The stop command is none of them (the model's choice, log 67). -/
inductive CardCmd where
  | idReset | idReady | idRecord | status
  | read (address : Nat) | write (address : Nat) | raw (index : Nat) (arg : Word32)
  deriving DecidableEq, Repr

/-- Where a grant stands between the events of the bus (R82, R85, R86, R89, R100, R111). -/
inductive BusStage where
  /-- A command is being sent. -/
  | sending (c : CardCmd)
  /-- A command has been sent; the response timer runs. -/
  | awaiting (c : CardCmd)
  /-- A block is awaited or is being read; the block timer runs until it begins. -/
  | reading
  /-- The clock is stopped between blocks: a DATA frame waits for room (R89). -/
  | heldUp
  /-- The clock is stopped between blocks: the write buffer is full (R100). -/
  | heldBuf
  /-- Blocks of the prefetch buffer are entering the write buffer (R111). -/
  | moving
  /-- A block and its check token are being written. -/
  | writing
  /-- The card holds the data line busy after a block; the block timer runs. -/
  | busyHold
  deriving DecidableEq, Repr

/-- Why a grant ends at the next boundary (R83, R92, R94, R112). -/
inductive StopWhy where
  | halt | linkDown | yield | discard
  deriving DecidableEq, Repr

/-- The current grant of the card bus (R71, R83, R84). -/
structure Grant where
  slot       : Slot
  prefetch   : Bool
  divider    : Nat
  response   : Nat
  block      : Nat
  stage      : BusStage
  next       : Nat
  retried    : Bool
  timer      : Option Nat
  readySince : Option Nat
  stop       : Option StopWhy
  deriving DecidableEq, Repr

/-- The arbiter (R71). -/
structure Bus where
  grant       : Option Grant
  lastGranted : Slot
  deriving DecidableEq, Repr

/-- A chain entry (R96). -/
structure ChainEntry where
  offset : Nat
  length : Nat
  last   : Bool
  deriving DecidableEq, Repr

/-- The end causes of a staged read's card part (R95). -/
inductive EndCause where
  | done | mediaRemoved | cardTimeout | cardDataError | stopped
  deriving DecidableEq, Repr

/-- A Chain Engine context (R95); `placed` counts the pieces of the oldest block of the buffer that have been written (R99, R105), `toError` is how its slot leaves BUSY (R101), `waits` that its completion waits for room (R102), `action` the answer's action once classified (R88). -/
structure Ctx where
  order     : OrderNo
  tag       : Word32
  gen       : Nat
  start     : Nat
  count     : Nat
  chain     : List ChainEntry
  position  : Nat
  buffer    : List Bytes
  placed    : Nat
  moved     : List Bytes
  received  : Nat
  delivered : Nat
  discarded : Nat
  written   : Nat
  cause     : Option EndCause
  toError   : Bool
  action    : Option Bool
  waits     : Bool
  deriving DecidableEq, Repr

/-! ## Engines (R122, R130 to R151) -/

/-- A message of the engine line (R132, R145, R207). -/
inductive EngineMsg where
  | pageOpen (order : OrderNo) (item copy media width rows bandRows : Nat)
  | band (seq rows : Nat) (raster : Bytes)
  | pageClose (count : Nat)
  | abandon
  | transit (code : Word16) (body : Bytes)
  deriving DecidableEq, Repr

/-- An engine's item: an order and an index of its print list (R122, R130). -/
structure ItemRef where
  order : OrderNo
  item  : Nat
  deriving DecidableEq, Repr

/-- A running engine timer: its kind, its length in seconds and its start (R130). -/
structure EngineTimer where
  kind   : TimerKind
  length : Nat
  start  : Nat
  deriving DecidableEq, Repr

/-- A band read left to end after its copy was settled (R137, R143); `lost` once its order has been closed, so that its extent is no order's any more. Log 34. -/
structure StaleRead where
  order  : OrderNo
  offset : Nat
  length : Nat
  lost   : Bool
  deriving DecidableEq, Repr

/-- A transit message being received from the engine: its generation, and whether it was already observed (R144, R146). -/
structure UpMsg where
  gen      : Nat
  observed : Bool
  deriving DecidableEq, Repr

/-- The engine record of R130, the engine queue of R122 and the engine port. -/
structure Engine where
  state     : EngineState
  ready     : Bool
  media     : Option Nat
  lastFault : Option FaultCause
  item      : Option ItemRef
  copy      : Option Nat
  wasted    : Bool
  bandCount : Nat
  nextBand  : Nat
  credits   : Nat
  bandRead  : Option Nat
  timer     : Option EngineTimer
  lastSent  : Option Nat
  stale     : Option StaleRead
  queue     : List ItemRef
  lineBusy  : Option EngineMsg
  lineWait  : List EngineMsg
  transit   : Option Nat
  upMsg     : Option UpMsg
  upHeld    : Bool
  deriving DecidableEq, Repr

/-! ## Payment (R152 to R172) -/

/-- The monitor while AWAITING (R158). -/
structure Awaiting where
  order  : OrderNo
  cls    : PayClass
  amount : Option Nat
  prior  : Option PayState
  length : Nat
  start  : Nat
  deriving DecidableEq, Repr

/-- A message in the transmit FIFO with its generation (R152, R57). -/
structure TxMsg where
  bytes : Bytes
  gen   : Nat
  deriving DecidableEq, Repr

/-- A received byte: damaged or not (R153), and whether the line was idle for 20 ms before it (R157). -/
structure RxByte where
  byte     : Byte
  damaged  : Bool
  afterGap : Bool
  deriving DecidableEq, Repr

/-- The framer's modes (R155 to R157). -/
inductive FramerMode where
  | waiting | inMessage | resync
  deriving DecidableEq, Repr

/-- The framer (R154 to R157): the profile it works under, the message's generation and bytes, the trailing bytes still to come after the end byte, and whether the message is complete or held for room (R162). -/
structure Framer where
  mode     : FramerMode
  profile  : PayProfile
  gen      : Nat
  msg      : Bytes
  trail    : Option Nat
  complete : Bool
  held     : Bool
  deriving DecidableEq, Repr

/-- The Payment Monitor, its FIFOs and its framer. -/
structure Payment where
  monitor  : Option Awaiting
  tx       : List TxMsg
  rx       : List RxByte
  lineIdle : Bool
  framer   : Framer
  deriving DecidableEq, Repr

/-! ## The part -/

/-- The state of the part, and the queue of commands that wait. -/
structure State where
  pending    : List Instr
  now        : Nat
  free       : Nat
  resetLow   : Bool
  part       : PartState
  fip        : Bool
  link       : Link
  orders     : Vector Order 16
  lastServed : OrderNo
  smc        : Smc
  rules      : RuleUnit
  slots      : Vector SlotRec 4
  ctxs       : Vector (Option Ctx) 4
  bus        : Bus
  engines    : Vector Engine 2
  pay        : Payment
  banks      : Vector Bank 6
  deriving DecidableEq, Repr

/-- Why the model stops. Both are safe: the spec says that no access of the part comes there, and no command has an effect in the spec that is lost by them. Log 28. -/
inductive Fault where
  /-- Raised by BULK_ACCESS_COMPLETE, WRITE_BUFFER_DRAIN, BAND_READ_END and CLOSE_ORDER when a page map names a page the configured DRAM does not have (R25: the rest of the DRAM is never addressed). Safe. -/
  | noSuchPage
  /-- Raised by BULK_ACCESS_COMPLETE, WRITE_BUFFER_DRAIN, BAND_READ_END and CLOSE_ORDER when an access whose bounds were checked earlier lies outside the window (R38: never reaches translation). Safe. -/
  | outsideWindow
  deriving DecidableEq, Repr

/-- A command the model gives no meaning to. -/
inductive Refusal where
  /-- Raised by exec for a command without a meaning: none is left. Safe. -/
  | notModelled (mnemonic : String)
  deriving DecidableEq, Repr

/-! ## Values at reset -/

/-- No permit (R1). -/
def Permits.empty : Permits := { cardWrite := false, engineService := false, paymentRefund := false }

/-- The payment record OPEN_ORDER sets (R5). -/
def PayRec.empty : PayRec :=
  { state := .none_, authorised := 0, captured := 0, refunded := 0, lost := none }

/-- A FREE record; its fields carry no meaning (R1). Log 47. -/
def Order.blank : Order :=
  { state := .free, tag := 0, permits := .empty, slot := none, map := [], awaiting := 0,
    items := [], pay := .empty, faultRec := none, shortArmed := true }

/-- The reset payment profile (R70). -/
def PayProfile.atReset : PayProfile :=
  { baud := 9600, framing := 0, lenOffset := 0, lenWidth := 1, lenAdjust := 0,
    startByte := 0x02, endByte := 0x03, trailing := 0, codeOffset := 1, codeWidth := 1,
    timeout := 120 }

/-- The reset rule image (R70). -/
def Image.atReset : Image :=
  { rules := [],
    prices := Vector.replicate 16 { unit := 0, media := 0 },
    slots := Vector.replicate 4 { divider := 250, response := 250, block := 500, depth := 0 },
    engines := Vector.replicate 2 { response := 10, page := 180 },
    pay := .atReset }

/-- The Rule Unit after a reset (R70). -/
def RuleUnit.atReset : RuleUnit :=
  { active := .atReset, gen := 0, valid := true, pendingImg := .atReset, barrier := none }

/-- A slot record after a reset (R71); the card-detect input is the outside world's. -/
def SlotRec.atReset (pin : Bool) (debounce : Debounce) : SlotRec :=
  { base := none, bound := none, capacity := none, addressing := none, lock := none,
    request := none, buf := none, prefetch := none, staging := none, pin := pin,
    debounce := debounce }

/-- The arbiter after a reset (R71). -/
def Bus.atReset : Bus := { grant := none, lastGranted := .d }

/-- An engine after a power-on (R130). -/
def Engine.atReset : Engine :=
  { state := .offline, ready := false, media := none, lastFault := none, item := none,
    copy := none, wasted := false, bandCount := 0, nextBand := 0, credits := 0,
    bandRead := none, timer := none, lastSent := none, stale := none, queue := [],
    lineBusy := none, lineWait := [], transit := none, upMsg := none, upHeld := false }

/-- The framer waiting for a start under the reset profile (R171). -/
def Framer.atReset : Framer :=
  { mode := .waiting, profile := .atReset, gen := 0, msg := [], trail := none,
    complete := false, held := false }

/-- The Payment Monitor after a reset (R158, R171). -/
def Payment.atReset : Payment :=
  { monitor := none, tx := [], rx := [], lineIdle := false, framer := .atReset }

/-- The SMC after power-on (R46). The DRAM lists no byte: log 5. -/
def Smc.atPowerOn : Smc :=
  { geometry := none, linkTimeout := 50, threshold := 0, trained := false, freePool := [],
    scrubQ := [], scrubbing := false, retired := [], dram := [], ecc := [], bulk := none }

/-- A bank after power-on, with all of its causes enabled (R186). -/
def Bank.atPowerOn (mask : BitVec 8) : Bank := { record := none, mask := mask, count := 0 }

/-- The six banks after power-on: 3, 4, 4, 3, 3 and 1 causes (R174, R186). -/
def banksAtPowerOn : Vector Bank 6 :=
  #v[.atPowerOn 0x07, .atPowerOn 0x0F, .atPowerOn 0x0F, .atPowerOn 0x07, .atPowerOn 0x07,
     .atPowerOn 0x01]

/-- The Link Controller after power-on, its first notice PART_STATE UNCONFIGURED queued (R201). -/
def Link.atPowerOn : Link :=
  { state := .down, alignCount := 0, timer := none, discarding := false, downBuf := [],
    upQueue := [], waiting := [],
    notices := [{ kind := .partState, order := none, fip := false, body := [0] }],
    lost := 0, rxPaused := false, txHeld := false, sending := none, lastSupplier := .upstream,
    ctlOut := [] }

/-- The part right after its power-on reset has ended (R201), no card in any slot, no command waiting. Log 4. -/
def State.reset : State :=
  { pending := [], now := 0, free := 0, resetLow := false, part := .unconfigured, fip := false,
    link := .atPowerOn, orders := Vector.replicate 16 .blank, lastServed := 15,
    smc := .atPowerOn, rules := .atReset,
    slots := Vector.replicate 4 (.atReset false .idle), ctxs := Vector.replicate 4 none,
    bus := .atReset, engines := Vector.replicate 2 .atReset, pay := .atReset,
    banks := banksAtPowerOn }

end Sys2Proof.Machine
end

