-- ==== Sys2Proof/Machine/Operands.lean ====
section
/-! DEFINITION. The byte layouts of chapter 11: numbers, checks, frames, rule entries, engine messages, notices, completions, and the fields of results (R202 to R209). -/

namespace Sys2Proof.Machine

/-! ## Numbers (R202) -/

/-- The number that bytes carry, most significant byte first (R202). -/
def beNat (bs : Bytes) : Nat := bs.foldl (fun acc b => acc * 256 + b.toNat) 0

/-- The number that bytes carry, least significant byte first: BINARY_LE (R55). -/
def leNat (bs : Bytes) : Nat := beNat bs.reverse

/-- A number in w bytes, most significant byte first (R202). -/
def toBytes : Nat → Nat → Bytes
  | 0, _ => []
  | w + 1, n => BitVec.ofNat 8 (n / 256 ^ w) :: toBytes w n

/-- A signed byte (R203). -/
def signedByte (b : Byte) : Int := b.toInt

/-! ## Checks (R202) -/

/-- One bit shifted into a CRC register of width w, whose generator is g. -/
def crcBit {w : Nat} (g : BitVec w) (r : BitVec w) (bit : Bool) : BitVec w :=
  if (r.msb ^^ bit) then (r <<< 1) ^^^ g else r <<< 1

/-- The bits of a byte, least significant first. -/
def bitsLsb (b : Byte) : List Bool := (List.range 8).map b.getLsbD

/-- The bits of a byte, most significant first. -/
def bitsMsb (b : Byte) : List Bool := (bitsLsb b).reverse

/-- The reflection of a 32-bit register. -/
def reflect32 (r : Word32) : Word32 :=
  (List.range 32).foldl (fun acc i => (acc <<< 1) ||| (if r.getLsbD i then 1 else 0)) 0

/-- The CRC-32 of the frame trailer (R202). -/
def crc32 (bs : Bytes) : Word32 :=
  ~~~ reflect32 (bs.foldl (fun r b => (bitsLsb b).foldl (crcBit 0x04C11DB7) r) 0xFFFFFFFF)

/-- The CRC-16 check value of an engine message (R202). -/
def crc16 (bs : Bytes) : Word16 :=
  bs.foldl (fun r b => (bitsMsb b).foldl (crcBit 0x1021) r) 0xFFFF

/-! ## Values of lists of names (R203) -/

/-- A slot's number: A is 0. -/
def slotNo : Slot → Fin 4
  | .a => 0 | .b => 1 | .c => 2 | .d => 3

/-- The slot of a slot name's byte. -/
def slotOf (n : Nat) : Option Slot :=
  match n with
  | 0 => some .a | 1 => some .b | 2 => some .c | 3 => some .d | _ => none

/-- An engine's place in a pair. -/
def engineIdx : EngineNo → Fin 2
  | .one => 0 | .two => 1

/-- An engine's number, 1 or 2. -/
def engineNum : EngineNo → Nat
  | .one => 1 | .two => 2

/-- The engine of an engine number's byte. -/
def engineOf (n : Nat) : Option EngineNo :=
  match n with
  | 1 => some .one | 2 => some .two | _ => none

/-- A bank's number (R173). -/
def bankNo : BankName → Fin 6
  | .link => 0 | .card => 1 | .staging => 2 | .print => 3 | .payment => 4 | .tables => 5

/-- The bank of a bank number's byte. -/
def bankOf (n : Nat) : Option BankName :=
  match n with
  | 0 => some .link | 1 => some .card | 2 => some .staging | 3 => some .print
  | 4 => some .payment | 5 => some .tables | _ => none

/-- The order of an order byte: 0 to 15 (R202, R204). -/
def orderOfByte (b : Byte) : Option OrderNo :=
  if h : b.toNat < 16 then some ⟨b.toNat, h⟩ else none

/-- An order number, FFh for no order (R202). -/
def orderByte : Option OrderNo → Byte
  | some n => BitVec.ofNat 8 n.val
  | none => 0xFF

/-- The status codes (Status codes, file 10). -/
def Status.code : Status → Nat
  | .ok => 0 | .badFrame => 1 | .badRequest => 2 | .notReady => 3 | .halted => 4 | .busy => 5
  | .barrierPending => 6 | .tableInvalid => 7 | .rulesInvalid => 8 | .refusedByRule => 9
  | .permitMissing => 10 | .noOrder => 11 | .orderState => 12 | .orderTableFull => 13
  | .notBound => 14 | .slotState => 15 | .slotBusy => 16 | .outOfMedia => 17 | .cardLocked => 18
  | .chainInvalid => 19 | .poolEmpty => 20 | .windowLimit => 21 | .outOfWindow => 22
  | .dataPoisoned => 23 | .itemLimit => 24 | .itemState => 25 | .portBusy => 26
  | .terminalBusy => 27 | .payState => 28 | .amountLimit => 29 | .amountInvalid => 30
  | .unsettled => 31 | .resolveInvalid => 32

/-- The completion statuses (Status codes, file 10). -/
def CompletionStatus.code : CompletionStatus → Nat
  | .done => 0 | .shortChain => 1 | .mediaRemoved => 2 | .cardTimeout => 3 | .cardDataError => 4

/-- The frame kinds (R204). -/
def UpKind.code : UpKind → Nat
  | .response => 1 | .transit => 2 | .refusal => 3 | .notice => 4 | .data => 5

/-- The notice kinds (R208). -/
def NoticeKind.code : NoticeKind → Nat
  | .partState => 1 | .slotEvent => 2 | .itemEvent => 3 | .creditShort => 4
  | .paymentEvent => 5 | .engineEvent => 6 | .orderReleased => 7 | .poolLow => 8 | .fault => 9

/-- Part states in the order of R196. -/
def PartState.code : PartState → Nat
  | .unconfigured => 0 | .training => 1 | .running => 2 | .halted => 3

/-- Order states in the order of R1. -/
def OrderState.code : OrderState → Nat
  | .free => 0 | .open_ => 1 | .cancelling => 2 | .cancelled => 3 | .closing => 4

/-- Item states in the order of R4. -/
def ItemState.code : ItemState → Nat
  | .pending => 0 | .queued => 1 | .printing => 2 | .held => 3 | .done => 4 | .withdrawn => 5

/-- Engine choice: 1, 2, and 0 for EITHER (R203). -/
def EngineChoice.code : EngineChoice → Nat
  | .either => 0 | .only e => engineNum e

/-- Pay states in the order of R5. -/
def PayState.code : PayState → Nat
  | .none_ => 0 | .requested => 1 | .authorised => 2 | .declined => 3 | .capturePending => 4
  | .captured => 5 | .voidPending => 6 | .voided => 7 | .refundPending => 8 | .unknown => 9

/-- Payment request classes in the order of R5. -/
def PayClass.code : PayClass → Nat
  | .authorise => 0 | .capture => 1 | .void_ => 2 | .refund => 3

/-- Outcome classes in the order of R51; TIMEOUT is 6 where R169 lists it after them. -/
def OutcomeClass.code : OutcomeClass → Nat
  | .approved => 0 | .declined => 1 | .captured => 2 | .voided => 3 | .refunded => 4
  | .terminalError => 5

/-- Causes of UNKNOWN in the order of R169. -/
def UnknownCause.code : UnknownCause → Nat
  | .wrongClass => 0 | .amountAboveRequest => 1 | .amountMismatch => 2
  | .amountUnreadable => 3 | .timeout => 4

/-- Card request kinds (R205). -/
def CardKind.code : CardKind → Nat
  | .identify => 0 | .readLink => 1 | .readStaged => 2 | .write => 3 | .status => 4 | .raw => 5

/-- Base states in the order of R71. -/
def Base.code : Base → Nat
  | .present => 0 | .ready => 1 | .error => 2

/-- Slot states in the order of R71. Log 51. -/
def SlotState.code : SlotState → Nat
  | .empty => 0 | .present => 1 | .ready => 2 | .busy => 3 | .error => 4

/-- Addressing: 0 BYTE, 1 BLOCK (R209). -/
def Addressing.code : Addressing → Nat
  | .byte => 0 | .block => 1

/-- Engine states in the order of R130. -/
def EngineState.code : EngineState → Nat
  | .offline => 0 | .idle => 1 | .opening => 2 | .streaming => 3 | .closing => 4
  | .abandoning => 5 | .faulted => 6

/-- Fault causes (R207). -/
def causeCode : FaultCause → Nat
  | .paperOut => 0 | .ribbonOut => 1 | .jam => 2 | .headTemp => 3 | .dataError => 4 | .other => 5

/-- Ports in the order of R57. -/
def Port.code : Port → Nat
  | .slotPort x => (slotNo x).val | .enginePort e => 4 + (engineIdx e).val
  | .payDown => 6 | .payUp => 7

/-- The eight ports in that order. -/
def allPorts : List Port :=
  [.slotPort .a, .slotPort .b, .slotPort .c, .slotPort .d, .enginePort .one, .enginePort .two,
   .payDown, .payUp]

/-! ## Error codes (R174) -/

/-- The bank a cause belongs to (R174). -/
def Cause.bank : Cause → BankName
  | .frameCrc | .overrun | .badHeader => .link
  | .cardTimeout | .cardCrcRetry | .cardDataError | .cardProtocol => .card
  | .eccCorrected | .scrubVerify | .eccUncorrected | .trainingFailed => .staging
  | .engineTimeout | .engineProtocol | .bandSourcePoisoned => .print
  | .rxOverflow | .messageMalformed | .lateOutcome => .payment
  | .ruleParity => .tables

/-- Uncorrected causes (R174). -/
def Cause.uncorrected : Cause → Bool
  | .eccUncorrected | .trainingFailed | .ruleParity => true
  | .frameCrc | .overrun | .badHeader | .cardTimeout | .cardCrcRetry | .cardDataError
  | .cardProtocol | .eccCorrected | .scrubVerify | .engineTimeout | .engineProtocol
  | .bandSourcePoisoned | .rxOverflow | .messageMalformed | .lateOutcome => false

/-- A cause's place in its bank's list, corrected causes first (R174): its code and its mask bit. -/
def Cause.idx : Cause → Nat
  | .frameCrc => 0 | .overrun => 1 | .badHeader => 2
  | .cardTimeout => 0 | .cardCrcRetry => 1 | .cardDataError => 2 | .cardProtocol => 3
  | .eccCorrected => 0 | .scrubVerify => 1 | .eccUncorrected => 2 | .trainingFailed => 3
  | .engineTimeout => 0 | .engineProtocol => 1 | .bandSourcePoisoned => 2
  | .rxOverflow => 0 | .messageMalformed => 1 | .lateOutcome => 2
  | .ruleParity => 0

/-- The causes of a bank as a mask (R174). -/
def bankCauses : BankName → BitVec 8
  | .link => 0x07 | .card => 0x0F | .staging => 0x0F | .print => 0x07 | .payment => 0x07
  | .tables => 0x01

/-- Units in the order of R174, within their bank. -/
def ErrUnit.code : ErrUnit → Nat
  | .link | .smc | .paymentLine | .ruleUnit => 0
  | .slot x => (slotNo x).val
  | .engine e => engineNum e

/-- The card operations in the order of R174; both READs are READ. -/
def cardOpCode : CardKind → Nat
  | .identify => 0 | .status => 1 | .readLink => 2 | .readStaged => 2 | .write => 3 | .raw => 4

/-- Operations in the order of R174, within their bank. -/
def ErrOp.code : ErrOp → Nat
  | .receive => 0
  | .cardOp k => cardOpCode k
  | .prefetch => 5
  | .bulkRead => 0 | .bandRead => 1 | .writeMerge => 2 | .scrub => 3
  | .train .ioCalibrate => 4 | .train .initialise => 5 | .train .readWindow => 6
  | .engineIn st => st.code
  | .matchIn .active => 0 | .matchIn .pending => 1

/-- Unit, operation, cause: one byte each (R203). -/
def ErrCode.bytes (c : ErrCode) : Bytes :=
  [BitVec.ofNat 8 c.unit.code, BitVec.ofNat 8 c.op.code, BitVec.ofNat 8 c.cause.idx]

/-- An address of its bank's kind (R174, R203). -/
def ErrAddr.bytes : ErrAddr → Bytes
  | .cardBlock n => toBytes 4 n
  | .window o p => toBytes 4 o ++ toBytes 2 p
  | .page n => toBytes 2 n
  | .band k => toBytes 2 k
  | .rule i => toBytes 1 i

/-! ## Field shapes (R203) -/

/-- One byte of a number. -/
def b1 (n : Nat) : Bytes := [BitVec.ofNat 8 n]

/-- A flag of two values. -/
def flagByte (b : Bool) : Bytes := if b then [1] else [0]

/-- A one-byte field that may be absent: FFh (R203; for a number, log 14). -/
def opt1 : Option Nat → Bytes
  | some n => b1 n
  | none => [0xFF]

/-- A wider field that may be absent: a presence byte and the field (R203). -/
def optWide : Option Bytes → Bytes
  | some bs => 1 :: bs
  | none => [0]

/-- An amount: six bytes (R202). -/
def amountBytes (n : Nat) : Bytes := toBytes 6 n

/-- A list of entries: a one-byte count and the entries (R203). -/
def listBytes (entries : List Bytes) : Bytes := b1 entries.length ++ entries.flatten

/-- A permit set (R1, R203). -/
def Permits.byte (p : Permits) : Bytes :=
  b1 ((if p.cardWrite then 1 else 0) + (if p.engineService then 2 else 0)
    + (if p.paymentRefund then 4 else 0))

/-- A permit set from its byte; a bit beyond the three permits is out of range (R2). -/
def permitsOf (b : Byte) : Option Permits :=
  if b.toNat < 8 then
    some { cardWrite := b.getLsbD 0, engineService := b.getLsbD 1, paymentRefund := b.getLsbD 2 }
  else none

/-- A flag's byte: 1 or 0 (R203). -/
def flagOf (b : Byte) : Option Bool :=
  match b.toNat with
  | 0 => some false | 1 => some true | _ => none

/-! ## Frames (R187, R204) -/

/-- The bytes of a frame the part sends, trailer included (R204). -/
def UpFrame.wire (f : UpFrame) : Bytes :=
  let body := toBytes 1 (f.chan * 16 + f.kind.code) ++ [f.order]
    ++ toBytes 2 ((if f.fip then 32768 else 0) + f.payload.length)
    ++ toBytes 4 f.tag.toNat ++ f.payload
  body ++ toBytes 4 (crc32 body).toNat

/-- The payload of a notice with a lost count: its 4-byte header and its body (R208). -/
def Notice.payload (n : Notice) (lost : Nat) : Bytes :=
  b1 n.kind.code ++ [orderByte n.order] ++ toBytes 2 lost ++ n.body

/-- The frame that carries a notice with the lost count of R200. The header's order field is FFh (log 13). -/
def Notice.frame (n : Notice) (lost : Nat) : UpFrame :=
  { chan := 1, kind := .notice, order := 0xFF, fip := n.fip, tag := 0, payload := n.payload lost }

/-- The header and payload of a frame from the host (R204). -/
def DownFrame.body (f : DownFrame) : Bytes :=
  toBytes 1 (f.chan * 16 + f.kind) ++ [f.order] ++ toBytes 2 (f.flags * 4096 + f.length)
    ++ toBytes 4 f.tag.toNat ++ f.payload

/-- The bytes of a frame from the host, trailer included (R204). -/
def DownFrame.wire (f : DownFrame) : Bytes := f.body ++ toBytes 4 (crc32 f.body).toNat

/-- A frame whose header fields fit their places and whose length field is its payload's length. -/
def DownFrame.fits (f : DownFrame) : Bool :=
  f.chan < 16 && f.kind < 16 && f.flags < 16 && f.length == f.payload.length
    && f.payload.length ≤ 2048

/-- The header and payload of a received frame whose trailer has been checked (R204). -/
def frameFields (body : Bytes) : Option DownFrame :=
  match body with
  | k :: o :: f :: l :: t0 :: t1 :: t2 :: t3 :: payload =>
    some { chan := k.toNat / 16, kind := k.toNat % 16, order := o,
           flags := f.toNat / 16, length := beNat [f, l] % 4096,
           tag := BitVec.ofNat 32 (beNat [t0, t1, t2, t3]), payload := payload }
  | _ => none

/-- Step 2 of R188: at least 12 bytes, and the CRC matches. -/
def parseFrame (bytes : Bytes) : Option DownFrame :=
  if 12 ≤ bytes.length ∧
      beNat (bytes.drop (bytes.length - 4)) = (crc32 (bytes.take (bytes.length - 4))).toNat then
    frameFields (bytes.take (bytes.length - 4))
  else none

/-- The channel of a slot (R187). -/
def slotChannel (x : Slot) : Nat := 2 + (slotNo x).val

/-- The channel of an engine (R187). -/
def engineChannel (e : EngineNo) : Nat := 6 + (engineIdx e).val

/-- A frame's header is bad (R189). -/
def DownFrame.badHeader (f : DownFrame) : Bool :=
  f.chan > 9 || !(f.kind == 0 || f.kind == 2 || f.kind == 5) || f.chan == 1
    || f.length != f.payload.length

/-! ## Rule entries (R206) -/

/-- The 12 bytes of a rule entry (R206). -/
def RuleEntry.bytes (e : RuleEntry) : Bytes :=
  b1 e.direction ++ b1 e.portClass ++ b1 e.requestKind ++ b1 e.action
    ++ toBytes 2 e.code.toNat ++ toBytes 2 e.mask.toNat
    ++ b1 e.payClass ++ b1 e.amtOffset ++ b1 e.amtWidth ++ b1 e.amtFormat

/-- The rule entry of 12 bytes (R206), with good parity. -/
def ruleEntryOf (bs : Bytes) : Option RuleEntry :=
  match bs with
  | [d, p, r, a, c0, c1, m0, m1, k, o, w, f] =>
    some { direction := d.toNat, portClass := p.toNat, requestKind := r.toNat,
           action := a.toNat, code := BitVec.ofNat 16 (beNat [c0, c1]),
           mask := BitVec.ofNat 16 (beNat [m0, m1]), payClass := k.toNat,
           amtOffset := o.toNat, amtWidth := w.toNat, amtFormat := f.toNat, good := true }
  | _ => none

/-- The fields of an entry fit their bytes. -/
def RuleEntry.fits (e : RuleEntry) : Bool :=
  e.direction < 256 && e.portClass < 256 && e.requestKind < 256 && e.action < 256
    && e.payClass < 256 && e.amtOffset < 256 && e.amtWidth < 256 && e.amtFormat < 256 && e.good

/-- Exactly `n` consecutive entries of 12 bytes, nothing left over. -/
def ruleEntriesOf : Nat → Bytes → Option (List RuleEntry)
  | 0, [] => some []
  | 0, _ :: _ => none
  | n + 1, bs =>
    match ruleEntryOf (bs.take 12), ruleEntriesOf n (bs.drop 12) with
    | some e, some es => some (e :: es)
    | _, _ => none

/-- Exactly `n` consecutive pairs of unit price and media code (R59, R203). -/
def pricesOf : Nat → Bytes → Option (List Price)
  | 0, [] => some []
  | n + 1, p0 :: p1 :: p2 :: m :: bs =>
    match pricesOf n bs with
    | some ps => some ({ unit := beNat [p0, p1, p2], media := m.toNat } :: ps)
    | none => none
  | _, _ => none

/-- Exactly `n` consecutive chain entries of 8 bytes; a reserved flag bit that is set makes the payload out of range (R202, R205). -/
def chainOf : Nat → Bytes → Option (List ChainEntry)
  | 0, [] => some []
  | n + 1, o0 :: o1 :: o2 :: o3 :: f :: l0 :: l1 :: l2 :: bs =>
    if f.toNat < 2 then
      match chainOf n bs with
      | some es =>
        some ({ offset := beNat [o0, o1, o2, o3], length := beNat [l0, l1, l2],
                last := f.toNat == 1 } :: es)
      | none => none
    else none
  | _, _ => none

/-- A price as LOAD_PRICES and READ_IMAGE carry it. -/
def Price.bytes (p : Price) : Bytes := toBytes 3 p.unit ++ b1 p.media

/-- A slot profile as READ_IMAGE carries it, in the order of R59. -/
def SlotProfile.bytes (p : SlotProfile) : Bytes :=
  b1 p.divider ++ toBytes 2 p.response ++ toBytes 2 p.block ++ b1 p.depth

/-- An engine profile as READ_IMAGE carries it. -/
def EngineProfile.bytes (p : EngineProfile) : Bytes := b1 p.response ++ toBytes 2 p.page

/-- A payment profile as READ_IMAGE carries it, in the field order of R59. -/
def PayProfile.bytes (p : PayProfile) : Bytes :=
  toBytes 3 p.baud ++ b1 p.framing ++ b1 p.lenOffset ++ b1 p.lenWidth
    ++ [BitVec.ofInt 8 p.lenAdjust] ++ [p.startByte] ++ [p.endByte] ++ b1 p.trailing
    ++ b1 p.codeOffset ++ b1 p.codeWidth ++ toBytes 2 p.timeout

/-! ## Engine messages (R207) -/

/-- The class of an engine message: 0 PROTOCOL, 1 TRANSIT (R207). -/
def EngineMsg.cls : EngineMsg → Nat
  | .transit _ _ => 1
  | .pageOpen .. | .band .. | .pageClose _ | .abandon => 0

/-- The code of an engine message (R207). -/
def EngineMsg.code : EngineMsg → Nat
  | .pageOpen .. => 0x0100 | .band .. => 0x0101 | .pageClose _ => 0x0102 | .abandon => 0x0103
  | .transit c _ => c.toNat

/-- The body of an engine message (R207). -/
def EngineMsg.body : EngineMsg → Bytes
  | .pageOpen order item copy media width rows bandRows =>
    b1 order.val ++ b1 item ++ b1 copy ++ b1 media ++ toBytes 2 width ++ toBytes 2 rows
      ++ b1 bandRows ++ b1 0
  | .band seq rows _ => toBytes 2 seq ++ b1 rows ++ b1 0
  | .pageClose n => toBytes 2 n
  | .abandon => []
  | .transit _ body => body

/-- The raster a BAND carries between its body and its check value (R207). -/
def EngineMsg.raster : EngineMsg → Bytes
  | .band _ _ raster => raster
  | .pageOpen .. | .pageClose _ | .abandon | .transit _ _ => []

/-- A message on the engine line: header, body, for BAND the raster, and the check value (R207). -/
def engineBytes (cls : Nat) (reserved : Byte) (code : Nat) (body raster : Bytes) : Bytes :=
  let m := b1 cls ++ [reserved] ++ toBytes 2 code ++ toBytes 2 body.length ++ body ++ raster
  m ++ toBytes 2 (crc16 m).toNat

/-- The bytes of a message the part sends on the engine line (R207). -/
def EngineMsg.wire (m : EngineMsg) : Bytes := engineBytes m.cls 0 m.code m.body m.raster

/-- What a message from an engine says (R132, R144, R146). -/
inductive EngineIn where
  | credit (n : Nat) | printed | fault (c : FaultCause) | abandoned
  | transit (code : Word16) (body : Bytes)
  deriving DecidableEq, Repr

/-- The fault cause of a cause byte; none above 5 (R207). -/
def faultOf (n : Nat) : Option FaultCause :=
  match n with
  | 0 => some .paperOut | 1 => some .ribbonOut | 2 => some .jam | 3 => some .headTemp
  | 4 => some .dataError | 5 => some .other | _ => none

/-- Class, code and body of a received message whose check and length agree (R131, R207). The reserved byte is not read. -/
def engineFields (bytes : Bytes) : Option (Nat × Nat × Bytes) :=
  let m := bytes.take (bytes.length - 2)
  if beNat (bytes.drop (bytes.length - 2)) = (crc16 m).toNat then
    match m with
    | k :: _ :: c0 :: c1 :: l0 :: l1 :: body =>
      if beNat [l0, l1] = body.length ∧ body.length ≤ 2040 then
        some (k.toNat, beNat [c0, c1], body)
      else none
    | _ => none
  else none

/-- A protocol message from the engine by its code and body; a code that no engine sends, an n outside 1 to 4, a cause above 5 and a body shorter than its table entry are malformed (R132, R207). Log 61. -/
def protocolIn (code : Nat) (body : Bytes) : Option EngineIn :=
  if code = 0x0180 then
    match body with
    | n :: _ => if 1 ≤ n.toNat ∧ n.toNat ≤ Config.creditLimit then some (.credit n.toNat) else none
    | [] => none
  else if code = 0x0181 then some .printed
  else if code = 0x0182 then
    match body with
    | c :: _ => (faultOf c.toNat).map EngineIn.fault
    | [] => none
  else if code = 0x0183 then some .abandoned
  else none

/-- The message that bytes from an engine carry; none when they are malformed (R131, R207). -/
def engineIn (bytes : Bytes) : Option EngineIn :=
  match engineFields bytes with
  | some (0, code, body) => protocolIn code body
  | some (1, code, body) => some (.transit (BitVec.ofNat 16 code) body)
  | some (_ + 2, _, _) | none => none

/-- The engine message in a host's TRANSIT payload: class TRANSIT, reserved byte 0, header length agreeing with the payload (R145, R202, R207). -/
def hostEngineMsg (payload : Bytes) : Option (Word16 × Bytes) :=
  match payload with
  | k :: z :: c0 :: c1 :: l0 :: l1 :: body =>
    if k.toNat = 1 ∧ z.toNat = 0 ∧ beNat [l0, l1] = body.length ∧ body.length ≤ 2040 then
      some (BitVec.ofNat 16 (beNat [c0, c1]), body)
    else none
  | _ => none

/-! ## Card requests and completions (R205, R209) -/

/-- The card request of a kind byte (R205). -/
def cardKindOf (n : Nat) : Option CardKind :=
  match n with
  | 0 => some .identify | 1 => some .readLink | 2 => some .readStaged | 3 => some .write
  | 4 => some .status | 5 => some .raw | _ => none

/-- The fields of a card request (R76, R205). -/
structure CardFields where
  start    : Nat
  count    : Nat
  chain    : List ChainEntry
  rawIndex : Nat
  rawArg   : Word32
  rawLen   : Nat
  deriving DecidableEq, Repr

/-- A request without fields. -/
def CardFields.none_ : CardFields :=
  { start := 0, count := 0, chain := [], rawIndex := 0, rawArg := 0, rawLen := 0 }

/-- The fields that follow the kind byte, in their ranges, or none (check 2 of R76, R205). -/
def cardFields (k : CardKind) (fields : Bytes) : Option CardFields :=
  match k, fields with
  | .identify, [] => some .none_
  | .status, [] => some .none_
  | .readLink, [s0, s1, s2, s3, c0, c1] =>
    if 1 ≤ beNat [c0, c1] ∧ beNat [c0, c1] ≤ 64 then
      some { CardFields.none_ with start := beNat [s0, s1, s2, s3], count := beNat [c0, c1] }
    else none
  | .write, [s0, s1, s2, s3, c0, c1] =>
    if 1 ≤ beNat [c0, c1] ∧ beNat [c0, c1] ≤ 4 then
      some { CardFields.none_ with start := beNat [s0, s1, s2, s3], count := beNat [c0, c1] }
    else none
  | .readStaged, s0 :: s1 :: s2 :: s3 :: c0 :: c1 :: n :: entries =>
    if 1 ≤ beNat [c0, c1] ∧ beNat [c0, c1] ≤ 8192 then
      match chainOf n.toNat entries with
      | some chain =>
        some { CardFields.none_ with
                 start := beNat [s0, s1, s2, s3], count := beNat [c0, c1], chain := chain }
      | none => none
    else none
  | .raw, [i, a0, a1, a2, a3, l] =>
    if i.toNat ≤ 63 ∧ l.toNat ≤ 2 then
      some { CardFields.none_ with
               rawIndex := i.toNat, rawArg := BitVec.ofNat 32 (beNat [a0, a1, a2, a3]),
               rawLen := l.toNat }
    else none
  | _, _ => none

/-- A completion's payload: kind, status, two reserved bytes, results (R209). -/
def completionPayload (k : CardKind) (st : CompletionStatus) (results : Bytes) : Bytes :=
  b1 k.code ++ b1 st.code ++ [0, 0] ++ results

/-! ## Management requests (R204) -/

/-- The management requests by name (R195, R204). -/
inductive MgmtReq where
  | identifyPart | configure | resetPart | readBank | clearBank | setBankMask | clearFault
  | openOrder | bindSlot | unbindSlot | cancelOrder | closeOrder | readOrder | resolvePayment
  | growWindow | readPool
  | loadRules | loadPrices | loadSlotProfile | loadEngineProfile | loadPaymentProfile
  | discardPending | readImage | commitTables
  | submitItem | resumeItem | withdrawItem | readEngine
  deriving DecidableEq, Repr

/-- The request codes (R204). -/
def MgmtReq.code : MgmtReq → Nat
  | .identifyPart => 0x01 | .configure => 0x02 | .resetPart => 0x03 | .readBank => 0x04
  | .clearBank => 0x05 | .setBankMask => 0x06 | .clearFault => 0x07
  | .openOrder => 0x10 | .bindSlot => 0x11 | .unbindSlot => 0x12 | .cancelOrder => 0x13
  | .closeOrder => 0x14 | .readOrder => 0x15 | .resolvePayment => 0x16
  | .growWindow => 0x20 | .readPool => 0x21
  | .loadRules => 0x30 | .loadPrices => 0x31 | .loadSlotProfile => 0x32
  | .loadEngineProfile => 0x33 | .loadPaymentProfile => 0x34 | .discardPending => 0x35
  | .readImage => 0x36 | .commitTables => 0x37
  | .submitItem => 0x40 | .resumeItem => 0x41 | .withdrawItem => 0x42 | .readEngine => 0x43

/-- Every management request. -/
def allMgmt : List MgmtReq :=
  [.identifyPart, .configure, .resetPart, .readBank, .clearBank, .setBankMask, .clearFault,
   .openOrder, .bindSlot, .unbindSlot, .cancelOrder, .closeOrder, .readOrder, .resolvePayment,
   .growWindow, .readPool, .loadRules, .loadPrices, .loadSlotProfile, .loadEngineProfile,
   .loadPaymentProfile, .discardPending, .readImage, .commitTables, .submitItem, .resumeItem,
   .withdrawItem, .readEngine]

/-- The management request of a code (R204). -/
def mgmtOf (code : Nat) : Option MgmtReq := allMgmt.find? (fun r => r.code == code)

/-- The code of BULK_READ and of BULK_WRITE (R204). -/
def bulkReadCode : Nat := 0x50
/-- See `bulkReadCode`. -/
def bulkWriteCode : Nat := 0x51

/-- Which row of the command table takes a frame out of the downstream buffer. -/
inductive TakeRow where
  | badHeader | misrouted | unknown
  | mgmt (r : MgmtReq) | bulkRead | bulkWrite
  | card (x : Slot) (k : CardKind) | writeData (x : Slot)
  | engineDown (e : EngineNo) | payDown
  deriving DecidableEq, Repr

/-- The request code a REQUEST payload begins with, where it holds one (R204). -/
def DownFrame.reqCode (f : DownFrame) : Option Nat :=
  match f.payload with
  | c0 :: c1 :: _ => some (beNat [c0, c1])
  | _ => none

/-- The row of a frame on a slot channel: a card request by its kind byte, or a DATA frame; a TRANSIT frame of no kind is an unknown request, a REQUEST is misrouted (R189, R205). Log 15. -/
def DownFrame.slotRow (f : DownFrame) (x : Slot) : TakeRow :=
  if f.kind = 2 then
    match f.payload with
    | k :: _ => match cardKindOf k.toNat with
      | some kind => .card x kind
      | none => .unknown
    | [] => .unknown
  else if f.kind = 5 then .writeData x else .misrouted

/-- The row that takes a frame (R189, R195, R43, R76, R90, R145, R159). Log 15. -/
def DownFrame.row (f : DownFrame) : TakeRow :=
  if f.badHeader then .badHeader
  else match f.chan with
    | 0 =>
      if f.kind = 0 then
        match f.reqCode with
        | some c => match mgmtOf c with
          | some r => .mgmt r
          | none => .unknown
        | none => .unknown
      else .misrouted
    | 2 => f.slotRow .a
    | 3 => f.slotRow .b
    | 4 => f.slotRow .c
    | 5 => f.slotRow .d
    | 6 => if f.kind = 2 then .engineDown .one else .misrouted
    | 7 => if f.kind = 2 then .engineDown .two else .misrouted
    | 8 => if f.kind = 2 then .payDown else .misrouted
    | _ =>
      if f.kind = 0 then
        if f.reqCode = some bulkReadCode then .bulkRead
        else if f.reqCode = some bulkWriteCode then .bulkWrite
        else .unknown
      else .misrouted

end Sys2Proof.Machine
end

