-- ==== Sys2Proof/Machine/Dram.lean ====
section
/-! DEFINITION. The DRAM as a canonical list of bytes, window translation, and the words that hold a bit error (R25, R38, R39). -/

namespace Sys2Proof.Machine

/-! ## Bytes -/

/-- What a byte nothing has written reads as. Log 5. -/
def unlistedByte : Byte := 0

/-- The canonical form: addresses strictly rising, no entry equal to what an unlisted address reads as. -/
abbrev Memory.wf (m : Memory) : Prop :=
  m.Pairwise (fun x y => x.1 < y.1) ∧ ∀ e ∈ m, e.2 ≠ unlistedByte

/-- The byte at an address. -/
def Memory.read (m : Memory) (a : Nat) : Byte :=
  match m.find? (fun e => e.1 == a) with
  | some e => e.2
  | none => unlistedByte

/-- `len` bytes from an address. -/
def Memory.readRange (m : Memory) (a len : Nat) : Bytes :=
  (List.range len).map (fun i => m.read (a + i))

/-- The entries that bytes from an address on make. -/
def cellsFrom : Nat → Bytes → Memory
  | _, [] => []
  | a, b :: bs => if b = unlistedByte then cellsFrom (a + 1) bs else (a, b) :: cellsFrom (a + 1) bs

/-- Bytes written from an address on; the canonical form is kept. -/
def Memory.write (m : Memory) (a : Nat) (bs : Bytes) : Memory :=
  m.filter (fun e => e.1 < a) ++ cellsFrom a bs ++ m.filter (fun e => a + bs.length ≤ e.1)

/-- Zero written to every byte of `len` bytes from an address on: nothing is listed there. -/
def Memory.erase (m : Memory) (a len : Nat) : Memory :=
  m.filter (fun e => e.1 < a || a + len ≤ e.1)

/-! ## Pages and windows (R25, R38) -/

/-- Usable pages of a geometry (R25). -/
def Geometry.usable (g : Geometry) : Nat := if g.ecc then g.size * 8 else g.size * 16

/-- The size of a window in bytes (R34). -/
def windowSize (map : List MapEntry) : Nat := map.length * Config.pageBytes

/-- The DRAM address of a window offset (R38), where the map has its entry. -/
def translate (map : List MapEntry) (o : Nat) : Option Nat :=
  match map[o / Config.pageBytes]? with
  | some e => some (e.page * Config.pageBytes + o % Config.pageBytes)
  | none => none

/-- The part of an access that lies in one map entry (R38). -/
structure PagePart where
  entry  : Nat
  page   : Nat
  offset : Nat
  addr   : Nat
  length : Nat
  deriving DecidableEq, Repr

/-- The parts of an access of `len` bytes at window offset `o`, in offset order, from map entry `i` on (R38). -/
def pageParts (o len : Nat) : Nat → List MapEntry → List PagePart
  | _, [] => []
  | i, e :: es =>
    let lo := max o (i * Config.pageBytes)
    let hi := min (o + len) ((i + 1) * Config.pageBytes)
    if lo < hi then
      { entry := i, page := e.page, offset := lo,
        addr := e.page * Config.pageBytes + (lo - i * Config.pageBytes), length := hi - lo }
        :: pageParts o len (i + 1) es
    else pageParts o len (i + 1) es

/-- The bytes of an access, part by part. -/
def readParts (m : Memory) (ps : List PagePart) : Bytes :=
  (ps.map (fun p => m.readRange p.addr p.length)).flatten

/-- Bytes written part by part. -/
def writeParts : Memory → List PagePart → Bytes → Memory
  | m, [], _ => m
  | m, p :: ps, bs => writeParts (m.write p.addr (bs.take p.length)) ps (bs.drop p.length)

/-- The start of the 4-byte word a byte lies in (R25). -/
def wordOf (a : Nat) : Nat := a / 4 * 4

/-! ## Words in error (R39, R40) -/

/-- A word's error recorded, in address order. -/
def eccSet : List (Nat × EccErr) → Nat → EccErr → List (Nat × EccErr)
  | [], a, k => [(a, k)]
  | e :: es, a, k =>
    if a < e.1 then (a, k) :: e :: es
    else if a = e.1 then (a, k) :: es
    else e :: eccSet es a k

/-- The words that an access of `len` bytes at DRAM address `a` touches and that are in error (R25: a read of any byte of a word checks the whole word). -/
def eccIn (es : List (Nat × EccErr)) (a len : Nat) : List (Nat × EccErr) :=
  es.filter (fun e => wordOf a ≤ e.1 && e.1 < a + len)

/-- New check data written for every word that `len` bytes at DRAM address `a` touch (R25). -/
def eccClear (es : List (Nat × EccErr)) (a len : Nat) : List (Nat × EccErr) :=
  es.filter (fun e => !(wordOf a ≤ e.1 && e.1 < a + len))

/-- New check data for every word of the parts. -/
def eccClearParts (es : List (Nat × EccErr)) (ps : List PagePart) : List (Nat × EccErr) :=
  ps.foldl (fun acc p => eccClear acc p.addr p.length) es

/-! ## Chains (R96, R97) -/

/-- A chain's capacity: the sum of its lengths (R96). -/
def chainCapacity (chain : List ChainEntry) : Nat := (chain.map (·.length)).sum

/-- The pieces that stream bytes from position `pos` on take along a chain whose first entry begins at stream byte `base`: window offset and bytes, in stream order; bytes without room are left out (R96, R99). -/
def piecesFrom : Nat → List ChainEntry → Nat → Bytes → List (Nat × Bytes)
  | _, [], _, _ => []
  | base, e :: es, pos, bs =>
    if bs = [] then []
    else if base + e.length ≤ pos then piecesFrom (base + e.length) es pos bs
    else
      let n := min bs.length (base + e.length - pos)
      (e.offset + (pos - base), bs.take n)
        :: piecesFrom (base + e.length) es (pos + n) (bs.drop n)

/-- The pieces of a block whose first byte is stream byte `pos` (R99). -/
def pieces (chain : List ChainEntry) (pos : Nat) (block : Bytes) : List (Nat × Bytes) :=
  piecesFrom 0 chain pos block

/-- Two extents share a byte. -/
def overlaps (a b : ChainEntry) : Bool := a.offset < b.offset + b.length && b.offset < a.offset + a.length

/-- Check 2 of R97 for entry `i`, `before` being the entries of lower index; the index of the first entry at fault. -/
def chainFaultFrom (window : Nat) : Nat → List ChainEntry → List ChainEntry → Option Nat
  | _, _, [] => none
  | i, before, e :: es =>
    if e.offset % 4 = 0 ∧ e.length % 4 = 0 ∧ 4 ≤ e.length ∧ e.length ≤ Config.pageBytes
        ∧ e.offset % Config.pageBytes + e.length ≤ Config.pageBytes
        ∧ e.offset + e.length ≤ window ∧ before.all (fun b => !overlaps b e) then
      chainFaultFrom window (i + 1) (before ++ [e]) es
    else some i

/-- Check 1 of R97: 1 to 64 entries, END on the last and on no other. -/
def chainShape (chain : List ChainEntry) : Bool :=
  1 ≤ chain.length && chain.length ≤ 64
    && (chain.map (·.last)) == List.replicate (chain.length - 1) false ++ [true]

/-- The outcome of the chain's checks: none passes; otherwise the index to report, none for a fault of check 1 (R97). -/
def chainCheck (window : Nat) (chain : List ChainEntry) : Option (Option Nat) :=
  if chainShape chain then
    match chainFaultFrom window 0 [] chain with
    | some i => some (some i)
    | none => none
  else some none

/-! ## Bands (R136) -/

/-- The bytes of an item's extent: skip bytes and raster (R113). -/
def Item.extentBytes (it : Item) : Nat := it.skip + it.width * 3 * it.rows

/-- The number of bands of a page (R136). -/
def Item.bandCount (it : Item) : Nat :=
  if it.rows % it.bandRows = 0 then it.rows / it.bandRows else it.rows / it.bandRows + 1

/-- The rows of band k (R136). -/
def Item.rowsOf (it : Item) (k : Nat) : Nat :=
  if k + 1 < it.bandCount then it.bandRows else it.rows - (it.bandCount - 1) * it.bandRows

/-- The window offset at which band k begins (R136). -/
def Item.bandOffset (it : Item) (k : Nat) : Nat :=
  it.offset + it.skip + k * it.bandRows * it.width * 3

/-- The bytes of band k (R136). -/
def Item.bandLength (it : Item) (k : Nat) : Nat := it.rowsOf k * it.width * 3

end Sys2Proof.Machine
end

