-- ==== Sys2Proof/Machine/Ops.lean ====
section
/-! DEFINITION. The operations the blocks share: records and their accessors, notices, the upstream queue, order and item events, engine pages and queues, the bus arbiter and prefetches, ports and the commit barrier, the matching of rules. -/

namespace Sys2Proof.Machine

/-! ## Records -/

/-- Order record n (R1). -/
def State.order (s : State) (n : OrderNo) : Order := s.orders.get n

/-- The candidate of an order: the index of its first PENDING item (R116). -/
def Order.candidate (o : Order) : Option Nat := o.items.findIdx? (fun it => it.state == .pending)

/-- The short-notice flag is armed by a change of the candidate or of the authorised amount (R119). Log 42. -/
def rearm (old new : Order) : Order :=
  if old.candidate ≠ new.candidate ∨ old.pay.authorised ≠ new.pay.authorised then
    { new with shortArmed := true }
  else new

/-- A change of one order record, applied whole (R20). -/
def State.updOrder (s : State) (n : OrderNo) (f : Order → Order) : State :=
  { s with orders := s.orders.set n.val (rearm (s.order n) (f (s.order n))) }

/-- A change of one item. -/
def State.updItem (s : State) (n : OrderNo) (i : Nat) (f : Item → Item) : State :=
  s.updOrder n (fun o => { o with items := o.items.modify i f })

/-- Slot record x (R71). -/
def State.slot (s : State) (x : Slot) : SlotRec := s.slots.get (slotNo x)

/-- A change of one slot record. -/
def State.updSlot (s : State) (x : Slot) (f : SlotRec → SlotRec) : State :=
  { s with slots := s.slots.set (slotNo x).val (f (s.slot x)) }

/-- The Chain Engine context of slot x (R95). -/
def State.ctx (s : State) (x : Slot) : Option Ctx := s.ctxs.get (slotNo x)

/-- Sets or frees a context. -/
def State.setCtx (s : State) (x : Slot) (c : Option Ctx) : State :=
  { s with ctxs := s.ctxs.set (slotNo x).val c }

/-- The record of engine e (R130). -/
def State.eng (s : State) (e : EngineNo) : Engine := s.engines.get (engineIdx e)

/-- A change of one engine record. -/
def State.updEng (s : State) (e : EngineNo) (f : Engine → Engine) : State :=
  { s with engines := s.engines.set (engineIdx e).val (f (s.eng e)) }

/-- Bank b (R173). -/
def State.bank (s : State) (b : BankName) : Bank := s.banks.get (bankNo b)

/-- A change of one bank. -/
def State.updBank (s : State) (b : BankName) (f : Bank → Bank) : State :=
  { s with banks := s.banks.set (bankNo b).val (f (s.bank b)) }

/-- Sets the current grant of the card bus. -/
def State.setGrant (s : State) (g : Option Grant) : State :=
  { s with bus := { s.bus with grant := g } }

/-- The four slots in the order A to D. -/
def allSlots : List Slot := [.a, .b, .c, .d]

/-- Both engines. -/
def allEngines : List EngineNo := [.one, .two]

/-- The sixteen order numbers, ascending. -/
def allOrders : List OrderNo := List.finRange 16

/-! ## Amounts of an order (R7, R8, R117) -/

/-- The due amount (R7). -/
def Order.due (o : Order) : Nat := (o.items.map (fun it => it.price * it.delivered)).sum

/-- Copies remaining of an item (R8). -/
def Item.remaining (it : Item) : Nat := it.copies - it.delivered

/-- The copies of an item that count toward the committed amount (R8). -/
def Item.committedCopies (it : Item) : Nat :=
  it.delivered + (if it.state = .queued ∨ it.state = .printing then it.remaining else 0)

/-- The committed amount (R8). -/
def Order.committed (o : Order) : Nat := (o.items.map (fun it => it.price * it.committedCopies)).sum

/-- The effective authorised amount (R117). -/
def Order.effective (o : Order) : Nat := if o.pay.state = .authorised then o.pay.authorised else 0

/-- An item of the order is QUEUED or PRINTING. -/
def Order.hasWork (o : Order) : Bool :=
  o.items.any (fun it => it.state == .queued || it.state == .printing)

/-- An item of the order is PRINTING. -/
def Order.hasPrinting (o : Order) : Bool := o.items.any (fun it => it.state == .printing)

/-- The order's record is in use and admits traffic: OPEN, CANCELLING or CANCELLED (R2, R43). -/
def Order.live (o : Order) : Bool :=
  o.state == .open_ || o.state == .cancelling || o.state == .cancelled

/-! ## Notices (R199) -/

/-- A notice joins its queue, or is counted as lost when the queue holds 64 (R199). -/
def State.raise (s : State) (kind : NoticeKind) (order : Option OrderNo) (body : Bytes) : State :=
  if s.link.notices.length < Config.noticeLimit then
    { s with link := { s.link with
        notices := s.link.notices ++ [{ kind := kind, order := order, fip := s.fip, body := body }] } }
  else
    { s with link := { s.link with lost := min Config.countLimit (s.link.lost + 1) } }

/-- PART_STATE with the part state as it stands (R196). -/
def State.raisePartState (s : State) : State := s.raise .partState none (b1 s.part.code)

/-- SLOT_EVENT: slot, new state, order or none, lock level or none (R75). -/
def State.raiseSlotEvent (s : State) (x : Slot) (st : SlotState) (order : Option OrderNo)
    (lock : Option Bool) : State :=
  s.raise .slotEvent order
    (b1 (slotNo x).val ++ b1 st.code ++ [orderByte order]
      ++ opt1 (lock.map (fun b => if b then 1 else 0)))

/-- ITEM_EVENT: order, tag, index, new state, delivered, wasted, due and committed amounts after the event (R126). -/
def State.raiseItemEvent (s : State) (n : OrderNo) (i : Nat) : State :=
  match (s.order n).items[i]? with
  | some it =>
    s.raise .itemEvent (some n)
      ([orderByte (some n)] ++ toBytes 4 (s.order n).tag.toNat ++ b1 i ++ b1 it.state.code
        ++ b1 it.delivered ++ toBytes 2 it.wasted
        ++ amountBytes (s.order n).due ++ amountBytes (s.order n).committed)
  | none => s

/-- How a copy ended, as ENGINE_EVENT carries it (R147). -/
inductive CopyOutcome where
  | delivered | wastedFault (c : FaultCause) | wastedTimeout | wastedAbandoned
  deriving DecidableEq, Repr

/-- The outcome, and the cause where it has one (R147, R203). -/
def CopyOutcome.bytes : CopyOutcome → Bytes
  | .delivered => b1 0
  | .wastedFault c => b1 1 ++ b1 (causeCode c)
  | .wastedTimeout => b1 2
  | .wastedAbandoned => b1 3

/-- The page an ENGINE_EVENT reports the end of (R147). -/
structure PageEnd where
  ref     : ItemRef
  copy    : Nat
  outcome : CopyOutcome
  deriving DecidableEq, Repr

/-- ENGINE_EVENT: engine, state, ready, media, last fault cause, and the page where one ended (R147). -/
def State.raiseEngineEvent (s : State) (e : EngineNo) (page : Option PageEnd) : State :=
  let g := s.eng e
  let head := b1 (engineNum e) ++ b1 g.state.code ++ flagByte g.ready ++ opt1 g.media
    ++ opt1 (g.lastFault.map causeCode)
  match page with
  | some p =>
    s.raise .engineEvent (some p.ref.order)
      (head ++ [orderByte (some p.ref.order)] ++ b1 p.ref.item ++ b1 p.copy ++ p.outcome.bytes)
  | none => s.raise .engineEvent none head

/-- PAYMENT_EVENT: order, tag, pay state, outcome class or TIMEOUT, the three amounts, and for UNKNOWN the lost class and the cause (R169). -/
def State.raisePaymentEvent (s : State) (n : OrderNo) (outcome : Nat)
    (cause : Option UnknownCause) : State :=
  let o := s.order n
  s.raise .paymentEvent (some n)
    ([orderByte (some n)] ++ toBytes 4 o.tag.toNat ++ b1 o.pay.state.code ++ b1 outcome
      ++ amountBytes o.pay.authorised ++ amountBytes o.pay.captured ++ amountBytes o.pay.refunded
      ++ (match cause with
          | some c => opt1 (o.pay.lost.map PayClass.code) ++ b1 c.code
          | none => []))

/-! ## The upstream queue (R192) -/

/-- Places reserved: one for the bulk request being carried out (R192). -/
def State.reserved (s : State) : Nat := if s.smc.bulk.isSome then 1 else 0

/-- Room for one more frame (R192). -/
def State.room (s : State) : Bool := s.link.upQueue.length + s.reserved < Config.upLimit

/-- Places a frame, with FIP as it stands; a frame is discarded while the link is not UP (R187, R192). -/
def State.place (s : State) (f : UpFrame) : State :=
  if s.link.state = .up then
    { s with link := { s.link with upQueue := s.link.upQueue ++ [{ f with fip := s.fip }] } }
  else s

/-- A device frame or the held RESPONSE: placed, discarded while the link is not UP, or left waiting behind the frames that wait already (R192). The flag says that it no longer concerns its block. -/
def State.offer (s : State) (owner : Waiter) (f : UpFrame) : State × Bool :=
  if s.link.state ≠ .up then (s, true)
  else if s.room && s.link.waiting.isEmpty then (s.place f, true)
  else
    ({ s with link := { s.link with waiting := s.link.waiting ++ [{ owner := owner, frame := f }] } },
     false)

/-- The receive pause state follows the number of held frames (R190). -/
def State.followHeld (s : State) : State :=
  if !s.link.rxPaused && 6 ≤ s.link.downBuf.length then
    { s with link := { s.link with rxPaused := true, ctlOut := s.link.ctlOut ++ [.pause] } }
  else if s.link.rxPaused && s.link.downBuf.length ≤ 2 then
    { s with link := { s.link with rxPaused := false, ctlOut := s.link.ctlOut ++ [.resume] } }
  else s

/-- Room for the answer of a take: the places that free belong to the frames waiting for room, the one that began waiting first before all (R192), so a take finds room only beyond the places owed to them. Log 11. -/
def State.roomToTake (s : State) : Bool :=
  s.link.upQueue.length + s.reserved + s.link.waiting.length < Config.upLimit

/-- A held frame may be taken: there is room for its answer or the link is not UP, and a BULK frame waits for the bulk request in progress (R189). Frames held when the link went DOWN are taken and carried out (R194), payment messages too (log 68). -/
def State.mayTake (s : State) (f : DownFrame) : Bool :=
  (s.roomToTake || s.link.state != .up) && !(f.chan == 9 && s.smc.bulk.isSome)

/-- The frame that is taken next, and the frames that stay (R189: in arrival order). -/
def takeFirst (ok : DownFrame → Bool) : List DownFrame → Option (DownFrame × List DownFrame)
  | [] => none
  | f :: fs =>
    if ok f then some (f, fs)
    else match takeFirst ok fs with
      | some (g, rest) => some (g, f :: rest)
      | none => none

/-- The next take (R189). -/
def State.nextTake (s : State) : Option (DownFrame × List DownFrame) :=
  takeFirst s.mayTake s.link.downBuf

/-- The buffer after a take (R189, R190). -/
def State.afterTake (s : State) (rest : List DownFrame) : State :=
  ({ s with link := { s.link with downBuf := rest } } : State).followHeld

/-- A command that takes a frame acts when the next take is of its row; otherwise it is no event and nothing changes. Log 1, log 2. -/
def State.takeAs (s : State) (row : TakeRow) (k : DownFrame → State → State) : State :=
  match s.nextTake with
  | some (f, rest) => if f.row = row then k f (s.afterTake rest) else s
  | none => s

/-- The answer of a take to a transit or data frame: a REFUSAL (R187, R204). -/
def State.refuse (s : State) (f : DownFrame) (st : Status) (more : Bytes) : State :=
  s.place { chan := if f.chan > 9 then 0 else f.chan, kind := .refusal, order := f.order,
            fip := s.fip, tag := f.tag, payload := b1 st.code ++ more }

/-- The RESPONSE to a request (R187, R204). -/
def State.respond (s : State) (f : DownFrame) (code : Bytes) (st : Status) (results : Bytes) :
    State :=
  s.place { chan := f.chan, kind := .response, order := f.order, fip := s.fip, tag := f.tag,
            payload := code ++ b1 st.code ++ results }

/-! ## Orders -/

/-- A CANCELLING order without a PRINTING item becomes CANCELLED (R14). -/
def State.cancelCheck (s : State) (n : OrderNo) : State :=
  if (s.order n).state = .cancelling ∧ !(s.order n).hasPrinting then
    s.updOrder n (fun o => { o with state := .cancelled })
  else s

/-- An order whose pages awaiting scrub have reached 0 becomes FREE, with ORDER_RELEASED carrying its number and tag (R17). -/
def State.release (s : State) (n : OrderNo) : State :=
  let tag := (s.order n).tag
  let s1 := { s with orders := s.orders.set n.val .blank }
  s1.raise .orderReleased (some n) ([orderByte (some n)] ++ toBytes 4 tag.toNat)

/-- A page number added to the retired set, kept in ascending order (R33). -/
def retire : List Nat → Nat → List Nat
  | [], p => [p]
  | q :: qs, p => if p < q then p :: q :: qs else if p = q then q :: qs else q :: retire qs p

/-- The pages of a map that go to the scrub queue, in map order (R16, R47). -/
def cleanPages (map : List MapEntry) : List Nat := (map.filter (fun e => !e.poisoned)).map (·.page)

/-- The pages of a map that are retired (R16, R47). -/
def badPages (map : List MapEntry) : List Nat := (map.filter (fun e => e.poisoned)).map (·.page)

/-- A map handed back to the SMC with an attribution or none (R16, R47). -/
def Smc.takeBack (m : Smc) (map : List MapEntry) (order : Option OrderNo) : Smc :=
  { m with
    scrubQ := m.scrubQ ++ (cleanPages map).map (fun p => { page := p, order := order }),
    retired := (badPages map).foldl retire m.retired }

/-! ## Engines: lines, timers, pages, queues -/

/-- A message made ready for the engine line, behind those waiting (R131). -/
def Engine.ready_ (g : Engine) (m : EngineMsg) : Engine := { g with lineWait := g.lineWait ++ [m] }

/-- The engine profile of the active image (R50). -/
def State.engineProfile (s : State) (e : EngineNo) : EngineProfile :=
  s.rules.active.engines.get (engineIdx e)

/-- Starts the response or page timer with the length of the active image's profile (R50, R130). -/
def State.startTimer (s : State) (e : EngineNo) (k : TimerKind) : State :=
  let len := match k with
    | .response => (s.engineProfile e).response
    | .page => (s.engineProfile e).page
  s.updEng e (fun g => { g with timer := some { kind := k, length := len, start := s.now } })

/-- Stops the engine timer. -/
def State.stopTimer (s : State) (e : EngineNo) : State := s.updEng e (fun g => { g with timer := none })

/-- The IDLE response timer starts or restarts (R142, R146). -/
def State.touchIdle (s : State) (e : EngineNo) : State :=
  if (s.eng e).state = .idle then s.startTimer e .response else s

/-- The item an engine prints. -/
def State.currentItem (s : State) (e : EngineNo) : Option Item :=
  match (s.eng e).item with
  | some r => (s.order r.order).items[r.item]?
  | none => none

/-- Opens a page for the current copy of an item: copy, band count, PAGE_OPEN, OPENING (R134 from step 1 without the take). -/
def State.openPage (s : State) (e : EngineNo) (r : ItemRef) : State :=
  match (s.order r.order).items[r.item]? with
  | some it =>
    s.updEng e (fun g =>
      ({ g with
          item := some r, copy := some (it.delivered + 1), wasted := false,
          bandCount := it.bandCount, nextBand := 0, credits := 0, bandRead := none,
          lastSent := none, timer := none, state := .opening }).ready_
        (.pageOpen r.order r.item (it.delivered + 1) it.media it.width it.rows it.bandRows))
  | none => s

/-- A band read in progress is left to end, its bytes to be discarded (R137, R143). Log 34. -/
def State.orphanRead (s : State) (e : EngineNo) : State :=
  match (s.eng e).bandRead, (s.eng e).item, s.currentItem e with
  | some k, some r, some it =>
    s.updEng e (fun g => { g with
      bandRead := none,
      stale := some { order := r.order, offset := it.bandOffset k, length := it.bandLength k,
                      lost := false } })
  | _, _, _ => s.updEng e (fun g => { g with bandRead := none })

/-- Copies wasted rises by one, staying at its limit (R113). -/
def Item.waste (it : Item) : Item := { it with wasted := min Config.countLimit (it.wasted + 1) }

/-- The current copy counts as wasted unless its result is already WASTED (R141, R143). -/
def State.wasteCopy (s : State) (e : EngineNo) : State :=
  match (s.eng e).item, (s.eng e).wasted with
  | some r, false => s.updItem r.order r.item Item.waste
  | _, _ => s

/-- ABANDON is made ready: the copy is wasted, waiting bands are not sent, the timer stops, the engine becomes ABANDONING (R143). -/
def State.abandonPage (s : State) (e : EngineNo) : State :=
  ((s.wasteCopy e).orphanRead e).updEng e (fun g =>
    ({ g with
        wasted := true, timer := none, credits := 0, state := .abandoning,
        lineWait := g.lineWait.filter (fun m => match m with
          | .band _ _ _ => false
          | .pageOpen .. | .pageClose _ | .abandon | .transit _ _ => true) }).ready_ .abandon)

/-- What an item becomes when its page ends without delivering: WITHDRAWN under cancel, HELD otherwise (R14, R141, R143). -/
def State.failedState (s : State) (n : OrderNo) : ItemState :=
  if (s.order n).state = .cancelling then .withdrawn else .held

/-- The current item leaves PRINTING for `st`; the engine holds no item, credit or running timer; a CANCELLING order may become CANCELLED (R14, R140, R141, R143). -/
def State.leavePrinting (s : State) (e : EngineNo) (st : ItemState) : State :=
  match (s.eng e).item with
  | some r =>
    (((s.orphanRead e).updItem r.order r.item (fun it => { it with state := st })).updEng e
      (fun g => { g with item := none, copy := none, credits := 0, timer := none })).cancelCheck
      r.order
  | none => s.updEng e (fun g => { g with copy := none, credits := 0, timer := none })

/-- One entry of an engine queue returns to PENDING with its ITEM_EVENT (R123). -/
def State.returnEntry (s : State) (e : EngineNo) (r : ItemRef) : State :=
  ((s.updEng e (fun g => { g with queue := g.queue.erase r })).updItem r.order r.item
    (fun it => { it with state := .pending })).raiseItemEvent r.order r.item

/-- The entries that leave return in queue order; in HALTED no entry returns (R123, R127). -/
def State.returnEntries (s : State) (e : EngineNo) (leaves : ItemRef → Bool) : State :=
  if s.part = .halted then s
  else ((s.eng e).queue.filter leaves).foldl (fun acc r => acc.returnEntry e r) s

/-- All entries of the queue return (R123: OFFLINE, FAULTED). -/
def State.returnAll (s : State) (e : EngineNo) : State := s.returnEntries e (fun _ => true)

/-- The entries whose item needs another media return (R123). -/
def State.returnUnmatched (s : State) (e : EngineNo) : State :=
  s.returnEntries e (fun r =>
    match (s.order r.order).items[r.item]? with
    | some it => (s.eng e).media != some it.media
    | none => true)

/-- A host transit message. -/
def EngineMsg.isTransit : EngineMsg → Bool
  | .transit _ _ => true
  | .pageOpen .. | .band _ _ _ | .pageClose _ | .abandon => false

/-- A host transit message that waits for the line is dropped and is no longer in flight; one that is being sent goes out, and stays in flight until its last byte (R57, R150, R179). -/
def Engine.dropTransit (g : Engine) : Engine :=
  { g with
    lineWait := g.lineWait.filter (fun m => !m.isTransit),
    transit := if g.lineBusy.any EngineMsg.isTransit then g.transit else none }

/-- The next band's read begins: STREAMING, a credit held, no read in progress, a band left (R135, R137). -/
def State.tryBand (s : State) (e : EngineNo) : State :=
  let g := s.eng e
  if g.state = .streaming ∧ 0 < g.credits ∧ g.bandRead = none ∧ g.stale = none
      ∧ g.nextBand < g.bandCount then
    s.updEng e (fun g => { g with bandRead := some g.nextBand })
  else s

/-! ## Rule images and ports (R50, R57, R64, R65) -/

/-- The generation after this one (R49). -/
def nextGen (g : Nat) : Nat := (g + 1) % 65536

/-- The generation a port is under (R57). -/
def State.portGen (s : State) (p : Port) : Nat :=
  match s.rules.barrier with
  | some b => if b.switched.contains p then nextGen s.rules.gen else s.rules.gen
  | none => s.rules.gen

/-- The image of a generation: the active one, or during a barrier the frozen pending one (R50, R57). -/
def State.imageOf (s : State) (gen : Nat) : Image :=
  if gen = s.rules.gen then s.rules.active else s.rules.pendingImg

/-- A generation is VALID (R68). -/
def State.genValid (s : State) (gen : Nat) : Bool :=
  if gen = s.rules.gen then s.rules.valid
  else match s.rules.barrier with
    | some b => b.newValid
    | none => true

/-- A frame of the slot waits for room. -/
def State.slotFrameWaits (s : State) (x : Slot) : Bool :=
  s.link.waiting.any (fun w =>
    w.owner == .cardData x || w.owner == .cardDone x || w.owner == .stagedDone x)

/-- A port has a message in flight (R57). -/
def State.portBusy (s : State) : Port → Bool
  | .slotPort x => (s.slot x).request.isSome || (s.ctx x).isSome || s.slotFrameWaits x
  | .enginePort e => (s.eng e).transit.isSome || (s.eng e).upMsg.isSome || (s.eng e).upHeld
  | .payDown => !s.pay.tx.isEmpty
  | .payUp => s.pay.framer.mode == .inMessage || s.pay.framer.complete || s.pay.framer.held

/-! ## The card bus: prefetches, grants, the end of requests -/

/-- A slot's state (R71). -/
def SlotRec.state (r : SlotRec) : SlotState :=
  match r.base with
  | none => .empty
  | some b =>
    if r.request.isSome then .busy
    else match b with
      | .present => .present | .ready => .ready | .error => .error

/-- The slot's prefetch buffer is discarded and its prefetch ended; a block in progress is finished first (R112), and so is one that is awaited (log 57). -/
def State.discardPrefetch (s : State) (x : Slot) : State :=
  let s1 := s.updSlot x (fun r => { r with buf := none, prefetch := none })
  match s.bus.grant with
  | some g =>
    if g.slot = x ∧ g.prefetch then
      if g.stage = .reading then s1.setGrant (some { g with stop := some .discard })
      else s1.setGrant none
    else s1
  | none => s1

/-- The bus is released by a slot, whatever its grant is for. -/
def State.releaseBus (s : State) (x : Slot) : State :=
  match s.bus.grant with
  | some g => if g.slot = x then s.setGrant none else s
  | none => s

/-- Entry to base state ERROR: capacity and addressing become absent, the prefetch buffer is discarded, and SLOT_EVENT is raised when the base state was another (R72, R112). The lock level it carries is the record's, as last read (the model's choice, log 62). -/
def State.enterError (s : State) (x : Slot) : State :=
  let s1 := (s.updSlot x (fun r => { r with
    base := some .error, capacity := none, addressing := none })).discardPrefetch x
  if (s.slot x).base = some .error then s1
  else s1.raiseSlotEvent x .error (s.slot x).bound (s.slot x).lock

/-- A slot's request ends and the slot leaves BUSY (R72). -/
def State.endRequest (s : State) (x : Slot) (how : EndHow) : State :=
  let s1 := s.updSlot x (fun r => { r with request := none, staging := none })
  match how with
  | .kept => s1
  | .identified c a =>
    s1.updSlot x (fun r => { r with base := some .ready, capacity := some c, addressing := some a })
  | .toError => s1.enterError x

/-- The order's slot and the slot's order are cleared, and the prefetch buffer is discarded (R11, R12, R112). -/
def State.unbind (s : State) (x : Slot) : State :=
  let s1 := match (s.slot x).bound with
    | some n => s.updOrder n (fun o => { o with slot := none })
    | none => s
  (s1.updSlot x (fun r => { r with bound := none })).discardPrefetch x

/-- An insertion is taken: PRESENT, the lock switch read, SLOT_EVENT (R73). -/
def State.insertCard (s : State) (x : Slot) (locked : Bool) : State :=
  (s.updSlot x (fun r => { r with
    base := some .present, lock := some locked, debounce := .idle })).raiseSlotEvent x .present
    (s.slot x).bound (some locked)

/-- An insertion whose debounce ended while the slot's port carried the old card's read is taken once the port is free (R105); the lock level of that moment is a free value (log 78). -/
def State.takeInsertion (s : State) (x : Slot) : State :=
  if (s.slot x).base = none ∧ (s.slot x).pin ∧ (s.slot x).debounce = .ended
      ∧ !s.portBusy (.slotPort x) then
    ({ s with free := s.free + 1 } : State).insertCard x (Config.lockLevel s.free)
  else s

/-- The address a block number takes on the card bus (R77). -/
def SlotRec.cardAddress (r : SlotRec) (block : Nat) : Nat :=
  match r.addressing with
  | some .byte => block * Config.blockBytes
  | some .block | none => block

/-- A context can place bytes of its next block (R99). -/
def Ctx.hasRoom (c : Ctx) : Bool := c.position < chainCapacity c.chain

/-- A verified block enters the write buffer, or is discarded when none of its bytes has room (R99, R100). -/
def Ctx.takeBlock (c : Ctx) (b : Bytes) : Ctx :=
  let c1 := { c with position := c.position + Config.blockBytes, received := c.received + 1 }
  if c.hasRoom then { c1 with buffer := c.buffer ++ [b] }
  else { c1 with discarded := c.discarded + 1 }

/-- The pieces of the oldest block of the write buffer; blocks are delivered in card order (R99, R100). -/
def Ctx.oldestPieces (c : Ctx) (block : Bytes) : List (Nat × Bytes) :=
  pieces c.chain (c.delivered * Config.blockBytes) block

/-- The bytes of pieces. -/
def pieceBytes (ps : List (Nat × Bytes)) : Nat := (ps.map (fun p => p.2.length)).sum

/-- Blocks moved from the prefetch buffer enter the write buffer as room frees (R111). -/
def feed : List Bytes → Ctx → Ctx
  | [], c => { c with moved := [] }
  | b :: bs, c =>
    if c.hasRoom && Config.bufferLimit ≤ c.buffer.length then { c with moved := b :: bs }
    else feed bs (c.takeBlock b)

/-- Once the moved blocks have entered, the rest of the read is taken from the card, or the card part ends (R111). -/
def State.afterFeed (s : State) (x : Slot) : State :=
  match s.bus.grant, s.ctx x with
  | some g, some c =>
    if g.slot = x ∧ !g.prefetch ∧ g.stage = .moving ∧ c.moved.isEmpty then
      if c.received = c.count then
        (s.setCtx x (some { c with cause := some .done })).setGrant none
      else
        s.setGrant (some { g with
          stage := .sending (.read ((s.slot x).cardAddress (c.start + c.received))),
          next := c.start + c.received })
    else s
  | _, _ => s

/-- The slots in search order after the last slot granted a request (R83). -/
def slotsAfter : Slot → List Slot
  | .a => [.b, .c, .d, .a]
  | .b => [.c, .d, .a, .b]
  | .c => [.d, .a, .b, .c]
  | .d => [.a, .b, .c, .d]

/-- A slot's request is WAITING (R71); one that a removal has ended waits for nothing but room for its completion (R74). -/
def State.isWaiting (s : State) (x : Slot) : Bool :=
  match (s.slot x).request with
  | some r => r.phase == .waiting && r.finish.isNone
  | none => false

/-- A slot's prefetch is PENDING (R109). -/
def State.isPendingPrefetch (s : State) (x : Slot) : Bool :=
  match (s.slot x).prefetch with
  | some p => !p.running
  | none => false

/-- The bus clock divider of a request (R84): 250 gives 400 kHz. -/
def SlotRec.dividerFor (r : SlotRec) (k : CardKind) (profile : SlotProfile) : Nat :=
  match k with
  | .identify => Config.slowDivider
  | .status | .raw => if r.base = some .ready then profile.divider else Config.slowDivider
  | .readLink | .readStaged | .write => profile.divider

/-- The first command of a request (R77, R79, R81, R82). -/
def SlotRec.firstCommand (r : SlotRec) (q : CardReq) : CardCmd :=
  match q.kind with
  | .identify => .idReset
  | .status => .status
  | .raw => .raw q.rawIndex q.rawArg
  | .readLink | .readStaged => .read (r.cardAddress q.start)
  | .write => .write (r.cardAddress q.start)

/-- The blocks of a matching prefetch buffer move into the context at the start of the grant (R111). -/
def State.usePrefetch (s : State) (x : Slot) (g : Grant) : State :=
  match (s.slot x).buf, s.ctx x with
  | some b, some c =>
    if b.start = c.start then
      ((((s.setCtx x (some (feed (b.blocks.take c.count) c))).updSlot x
          (fun r => { r with buf := none })).setGrant (some { g with stage := .moving }))).afterFeed x
    else s.setGrant (some g)
  | _, _ => s.setGrant (some g)

/-- The bus is granted to the request of slot x (R83, R84). -/
def State.grantRequest (s : State) (x : Slot) : State :=
  match (s.slot x).request with
  | some q =>
    let p := (s.imageOf q.gen).slots.get (slotNo x)
    let g : Grant :=
      { slot := x, prefetch := false, divider := (s.slot x).dividerFor q.kind p,
        response := p.response, block := p.block, stage := .sending ((s.slot x).firstCommand q),
        next := q.start, retried := false, timer := none, readySince := none, stop := none }
    let s1 := { s.updSlot x (fun r => { r with request := some { q with phase := .onBus } }) with
                bus := { grant := none, lastGranted := x } }
    if q.kind = .readStaged then s1.usePrefetch x g else s1.setGrant (some g)
  | none => s

/-- The bus is granted to the pending prefetch of slot x (R83, R110). -/
def State.grantPrefetch (s : State) (x : Slot) : State :=
  match (s.slot x).prefetch with
  | some p =>
    (s.updSlot x (fun r => { r with prefetch := some { p with running := true } })).setGrant
      (some { slot := x, prefetch := true, divider := p.profile.divider,
              response := p.profile.response, block := p.profile.block,
              stage := .sending (.read ((s.slot x).cardAddress p.start)), next := p.start,
              retried := false, timer := none, readySince := none, stop := none })
  | none => s

/-- The arbiter grants the free bus: the first WAITING request after the last slot granted, else a pending prefetch; in HALTED nothing (R83, R92). -/
def State.arbitrate (s : State) : State :=
  if s.part = .halted ∨ s.bus.grant.isSome then s
  else match (slotsAfter s.bus.lastGranted).find? s.isWaiting with
    | some x => s.grantRequest x
    | none => match (slotsAfter s.bus.lastGranted).find? s.isPendingPrefetch with
      | some x => s.grantPrefetch x
      | none => s

/-- A running prefetch yields: at once between commands, after the block in progress otherwise (R83, R110); while the next block is awaited, after that block or its timeout (log 57). -/
def State.yieldPrefetch (s : State) : State :=
  match s.bus.grant with
  | some g =>
    if g.prefetch then
      if g.stage = .reading then
        s.setGrant (some { g with stop := some (g.stop.getD .yield) })
      else (s.updSlot g.slot (fun r => { r with prefetch := none })).setGrant none
    else s
  | none => s

/-- A request becomes WAITING: a running prefetch yields, and a free bus is granted at once (R83). Log 22. -/
def State.becomeWaiting (s : State) (x : Slot) : State :=
  ((s.updSlot x (fun r => { r with
    request := r.request.map (fun q => { q with phase := .waiting }) })).yieldPrefetch).arbitrate

/-- A prefetch is begun after a staged read that ended DONE or SHORT_CHAIN (R109). -/
def State.beginPrefetch (s : State) (x : Slot) (next : Nat) : State :=
  match (s.slot x).bound, (s.slot x).capacity with
  | some n, some cap =>
    let p := (s.imageOf (s.portGen (.slotPort x))).slots.get (slotNo x)
    if (s.order n).state = .open_ ∧ 0 < p.depth ∧ next < cap ∧ s.part ≠ .halted then
      s.updSlot x (fun r => { r with
        prefetch := some { running := false, start := next, target := min p.depth (cap - next),
                           profile := p } })
    else s
  | _, _ => s

/-! ## The framer (R154) -/

/-- The framer begins waiting for a start under the profile of its port's generation (R154). -/
def State.framerWait (s : State) : State :=
  let g := s.portGen .payUp
  { s with pay := { s.pay with framer :=
      { mode := .waiting, profile := (s.imageOf g).pay, gen := g, msg := [], trail := none,
        complete := false, held := false } } }

/-- The framer resynchronises under the profile of its port's generation (R154, R157); a complete message is kept until it has ended (R153). -/
def State.framerResync (s : State) : State :=
  let g := s.portGen .payUp
  let f := s.pay.framer
  { s with pay := { s.pay with framer :=
      if f.complete then { f with mode := .resync }
      else { f with mode := .resync, profile := (s.imageOf g).pay, gen := g, msg := [], trail := none } } }

/-- A complete message has ended on the payment up port: the framer waits for a start, or goes on resynchronising after an overflow met meanwhile (R153, R154). -/
def State.framerNext (s : State) : State :=
  if s.pay.framer.mode = .resync then
    ({ s with pay := { s.pay with framer :=
        { s.pay.framer with complete := false, held := false } } } : State).framerResync
  else s.framerWait

/-- At a switch of its port the framer takes the new image's profile (R154). -/
def State.framerSwitch (s : State) : State :=
  let g := s.portGen .payUp
  { s with pay := { s.pay with framer :=
      { s.pay.framer with profile := (s.imageOf g).pay, gen := g } } }

/-! ## The commit barrier (R64, R65) -/

/-- Parity written over every entry (R67). -/
def Image.withParity (im : Image) : Image :=
  { im with rules := im.rules.map (fun e => { e with good := true }) }

/-- The RESPONSE to COMMIT_TABLES with the new generation (R65). -/
def commitResponse (b : Barrier) (gen : Nat) : UpFrame :=
  { chan := 0, kind := .response, order := b.order, fip := false, tag := b.tag,
    payload := toBytes 2 MgmtReq.commitTables.code ++ b1 Status.ok.code ++ toBytes 2 gen }

/-- The barrier completes: the frozen image becomes active and the pending image its copy, prefetch buffers are discarded, the RESPONSE is sent (R65). Log 29. -/
def State.completeBarrier (s : State) (b : Barrier) : State :=
  let g := nextGen s.rules.gen
  let im := s.rules.pendingImg.withParity
  let s1 := { s with rules :=
    { active := im, gen := g, valid := b.newValid, pendingImg := im, barrier := none } }
  ((allSlots.foldl State.discardPrefetch s1).offer .commit (commitResponse b g)).1

/-- During a barrier, every port without a message in flight switches, and the last switch completes the barrier (R64, R65). -/
def State.settle (s : State) : State :=
  match s.rules.barrier with
  | none => s
  | some b =>
    let sw := allPorts.filter (fun p => b.switched.contains p || !s.portBusy p)
    let b' := { b with switched := sw }
    let s1 := { s with rules := { s.rules with barrier := some b' } }
    let s2 := if sw.contains .payUp && !b.switched.contains .payUp then s1.framerSwitch else s1
    if sw.length = 8 then s2.completeBarrier b' else s2

/-! ## What continues when a waiting frame is placed or discarded (R192) -/

/-- Step 4 of R102: the context is freed, the slot leaves BUSY, its port may switch, a prefetch may begin, and an insertion that waited is taken (R105). A read that a halt found draining after its card part had ended keeps its cause, and where that cause takes the slot to ERROR it does so here, in HALTED too (the model's choice, log 75). -/
def State.endStaged (s : State) (x : Slot) : State :=
  match s.ctx x with
  | some c =>
    let s1 := s.setCtx x none
    let s2 := if (s1.slot x).request.isSome then
        s1.endRequest x (if c.toError then .toError else .kept)
      else s1
    let s3 := s2.settle
    (if c.cause = some .done then s3.beginPrefetch x (c.start + c.count) else s3).takeInsertion x
  | none => s

/-- The block that waited for a frame continues as if the frame had been placed (R192, R89, R102, R146, R162); a slot whose port is free then takes an insertion that waited (R105, log 78). -/
def State.continueAfter (s : State) : Waiter → State
  | .cardData x =>
    match s.bus.grant with
    | some g =>
      if g.slot = x ∧ g.stage = .heldUp then
        s.setGrant (some { g with stage := .reading, timer := some s.now })
      else s
    | none => s
  | .cardDone x =>
    match (s.slot x).request with
    | some q => match q.finish with
      | some how => (s.endRequest x how).takeInsertion x
      | none => s
    | none => s
  | .stagedDone x => s.endStaged x
  | .engineUp e => s.updEng e (fun g => { g with upHeld := false })
  | .payUp => s.framerNext
  | .commit => s

/-! ## Matching (R51, R52, R55) -/

/-- What the Rule Unit takes from a message: direction, port class, request kind, code where it holds one, bytes (R52). -/
structure Msg where
  up    : Bool
  cls   : Nat
  kind  : Nat
  code  : Option Word16
  bytes : Bytes
  deriving DecidableEq, Repr

/-- The rule's request kind of a card request: READ for both kinds of READ (R52, R206). -/
def ruleKind : CardKind → Nat
  | .identify => 0 | .readLink => 1 | .readStaged => 1 | .write => 2 | .status => 3 | .raw => 4

/-- A card message (R52). -/
def cardMsg (up : Bool) (k : CardKind) : Msg :=
  { up := up, cls := 0, kind := ruleKind k, code := none, bytes := [] }

/-- An engine message (R52). -/
def engineMsg (up : Bool) (code : Word16) : Msg :=
  { up := up, cls := 1, kind := 0, code := some code, bytes := [] }

/-- The code of a payment message at the profile's code position; none when it is too short (R52). -/
def payCode (p : PayProfile) (bytes : Bytes) : Option Word16 :=
  if p.codeOffset + p.codeWidth ≤ bytes.length then
    some (BitVec.ofNat 16 (beNat ((bytes.drop p.codeOffset).take p.codeWidth)))
  else none

/-- A payment message under a profile (R52). -/
def payMsg (up : Bool) (p : PayProfile) (bytes : Bytes) : Msg :=
  { up := up, cls := 2, kind := 0, code := payCode p bytes, bytes := bytes }

/-- The entry's match field is satisfied (R52). A mask of 0 is satisfied by every message. -/
def RuleEntry.satisfied (e : RuleEntry) (m : Msg) : Bool :=
  if m.cls = 0 then e.requestKind == m.kind
  else if e.mask = 0 then true
  else match m.code with
    | some c => (c &&& e.mask) == (e.code &&& e.mask)
    | none => false

/-- The entry matches (R52). -/
def RuleEntry.fitsMsg (e : RuleEntry) (m : Msg) : Bool :=
  e.direction == (if m.up then 1 else 0) && e.portClass == m.cls && e.satisfied m

/-- What reading the list gives (R52, R67). -/
inductive RuleHit where
  | none_ | badParity (i : Nat) | hit (i : Nat) (e : RuleEntry)
  deriving DecidableEq, Repr

/-- The list read from entry i on: the first entry that matches, or the first whose parity is bad (R52, R67). -/
def scanRules (m : Msg) : Nat → List RuleEntry → RuleHit
  | _, [] => .none_
  | i, e :: es =>
    if !e.good then .badParity i
    else if e.fitsMsg m then .hit i e
    else scanRules m (i + 1) es

/-- An amount as a classification carries it (R55). -/
inductive Amount where
  | absent | unreadable | value (n : Nat)
  deriving DecidableEq, Repr

/-- The number of BCD bytes, where every half-byte is a digit (R55). -/
def bcdNat (bs : Bytes) : Option Nat :=
  bs.foldl (fun acc b =>
    match acc with
    | some n =>
      if b.toNat / 16 ≤ 9 ∧ b.toNat % 16 ≤ 9 then
        some (n * 100 + b.toNat / 16 * 10 + b.toNat % 16)
      else none
    | none => none) (some 0)

/-- The amount of a message under an entry (R55). -/
def RuleEntry.amount (e : RuleEntry) (bytes : Bytes) : Amount :=
  if e.amtWidth = 0 then .absent
  else if bytes.length < e.amtOffset + e.amtWidth then .unreadable
  else
    let field := (bytes.drop e.amtOffset).take e.amtWidth
    let v := match e.amtFormat with
      | 0 => some (beNat field)
      | 1 => some (leNat field)
      | _ => bcdNat field
    match v with
    | some n => if n ≤ Config.amountLimit then .value n else .unreadable
    | none => .unreadable

/-- The payment request class of a class byte (R206). -/
def payClassOf (n : Nat) : Option PayClass :=
  match n with
  | 1 => some .authorise | 2 => some .capture | 3 => some .void_ | 4 => some .refund | _ => none

/-- The outcome class of a class byte (R206). -/
def outcomeOf (n : Nat) : Option OutcomeClass :=
  match n with
  | 5 => some .approved | 6 => some .declined | 7 => some .captured | 8 => some .voided
  | 9 => some .refunded | 10 => some .terminalError | _ => none

/-- The actions of a rule (R51). -/
inductive Action where
  | pass | passIdle | passPermit | refuse | drop
  deriving DecidableEq, Repr

/-- The action of an action byte (R206). -/
def actionOf (n : Nat) : Action :=
  match n with
  | 0 => .pass | 1 => .passIdle | 2 => .passPermit | 3 => .refuse | _ => .drop

/-- The classification result (R56, R68): an INVALID generation, or action, entry, class byte and amount. -/
inductive Verdict where
  | invalid
  | found (action : Action) (entry : Option Nat) (cls : Nat) (amount : Amount)
  deriving DecidableEq, Repr

/-- The result of reading a list without a parity error (R52, R55, R56). -/
def verdictOf (m : Msg) : RuleHit → Verdict
  | .none_ => .found (if m.up then .pass else .refuse) none 0 .absent
  | .badParity _ => .invalid
  | .hit i e =>
    .found (actionOf e.action) (some i) e.payClass
      (if e.payClass = 0 then .absent else e.amount m.bytes)

/-- An upstream message goes on: PASS or an INVALID generation (R54, R68). -/
def Verdict.passes : Verdict → Bool
  | .invalid => true
  | .found a _ _ _ => a != .drop

/-! ## Flipped rule bits (R67) -/

/-- One bit of an entry flipped: its stored contents change and its parity is bad. Log 6. -/
def RuleEntry.flip (e : RuleEntry) (bit : Nat) : RuleEntry :=
  match ruleEntryOf (e.bytes.modify (bit / 8) (fun b => b ^^^ BitVec.ofNat 8 (2 ^ (bit % 8)))) with
  | some e' => { e' with good := false }
  | none => { e with good := false }

/-- A flip in an image; the pending image carries parity only while it is frozen (R67). -/
def State.flipBit (s : State) (f : ParityFlip) : State :=
  let upd := fun (im : Image) => { im with rules := im.rules.modify f.index (fun e => e.flip f.bit) }
  match f.image with
  | .active => { s with rules := { s.rules with active := upd s.rules.active } }
  | .pending =>
    if s.rules.barrier.isSome then
      { s with rules := { s.rules with pendingImg := upd s.rules.pendingImg } }
    else s

/-- The flips that have happened by now. -/
def State.flipBits (s : State) (fs : List ParityFlip) : State := fs.foldl State.flipBit s

end Sys2Proof.Machine
end

