-- ==== Sys2Proof/Machine/Flags.lean ====
section
/-! DEFINITION. The error banks, FIP, the entry to HALTED, and what is done at every report of an error (R173 to R179). -/

namespace Sys2Proof.Machine

/-! ## Capture (R175, R176, R177) -/

/-- The record after an error reached a bank (R175). -/
def captureRecord : Option ErrRec → ErrRec → ErrRec
  | none, new => new
  | some old, new =>
    if old.uncorrected then { old with overflow := true }
    else if new.uncorrected || (!old.enabled && new.enabled) then { new with overflow := true }
    else { old with overflow := true }

/-- The corrected count after an error (R176). -/
def captureCount (count : Nat) (uncorrected : Bool) : Nat :=
  if uncorrected then count else min Config.countLimit (count + 1)

/-- A cause is enabled in a mask (R177). -/
def enabledIn (mask : BitVec 8) (c : Cause) : Bool := mask.getLsbD c.idx

/-- One step on the bank's record and count (R175, R176). -/
def Bank.capture (b : Bank) (code : ErrCode) (order : Option OrderNo) (addr : Option ErrAddr) : Bank :=
  { b with
    record := some (captureRecord b.record
      { overflow := false, uncorrected := code.cause.uncorrected,
        enabled := enabledIn b.mask code.cause, order := order, addr := addr, code := code }),
    count := captureCount b.count code.cause.uncorrected }

/-! ## Entry to HALTED (R179) -/

/-- A request on the bus stops at once, between blocks or commands: a staged read's card part ends STOPPED, any other request ends without a completion (R92, R94, R107). -/
def State.stopNow (s : State) (x : Slot) : State :=
  match s.ctx x with
  | some c =>
    (s.setCtx x (some { c with cause := some .stopped, moved := [] })).releaseBus x
  | none => (s.endRequest x .kept).releaseBus x

/-- The stop of slot x's request at the entry to HALTED (R92). Log 20; a read that awaits its next block stops after that block or its timeout (log 57); a staged read whose card part has already ended drains on with the cause it has (the model's choice, log 75). -/
def State.haltSlot (s : State) (x : Slot) : State :=
  match (s.slot x).request with
  | none => s
  | some q =>
    if q.finish.isSome then s
    else match q.phase with
      | .collecting | .waiting => (s.setCtx x none).endRequest x .kept
      | .onBus =>
        match s.bus.grant with
        | some g =>
          if g.slot = x ∧ !g.prefetch then
            match g.stage with
            | .reading | .writing | .busyHold => s.setGrant (some { g with stop := some .halt })
            | .sending _ | .awaiting _ =>
              if q.kind = .identify ∨ q.kind = .status ∨ q.kind = .raw then
                s.setGrant (some { g with stop := some .halt })
              else s.stopNow x
            | .heldUp | .heldBuf | .moving => s.stopNow x
          else s
        | none => s

/-- A frame kind that carries device traffic (R179). -/
def UpKind.isDevice : UpKind → Bool
  | .transit | .data => true
  | .response | .refusal | .notice => false

/-- The frames of the upstream queue that carry device traffic are discarded; the frame being sent is cut off when it is one of them (R179, R198). Log 10. -/
def State.dropDeviceFrames (s : State) : State :=
  let cut : Bool := match s.link.sending, s.link.upQueue.head? with
    | some snd, some f => snd.source == .upstream && f.kind.isDevice
    | _, _ => false
  { s with link := { s.link with
      upQueue := s.link.upQueue.filter (fun f => !f.kind.isDevice),
      sending := if cut then none else s.link.sending } }

/-- A waiting frame other than the held RESPONSE to COMMIT_TABLES. -/
def WaitFrame.isDevice (w : WaitFrame) : Bool := w.owner != .commit

/-- The device frames waiting for room are discarded, and their blocks go on as if they had been placed (R179). -/
def State.dropDeviceWaiting (s : State) : State :=
  (s.link.waiting.filter WaitFrame.isDevice).foldl (fun acc w => acc.continueAfter w.owner)
    { s with link := { s.link with waiting := s.link.waiting.filter (fun w => !w.isDevice) } }

/-- A Band Streamer's page at the entry to HALTED (R149). -/
def State.haltPage (s : State) (e : EngineNo) : State :=
  match (s.eng e).state with
  | .opening | .streaming => s.abandonPage e
  | .closing => (s.wasteCopy e).updEng e (fun g => { g with wasted := true })
  | .offline | .idle | .abandoning | .faulted => s

/-- An engine port at the entry to HALTED: its page as R149 gives, and only the host message being sent on its line is finished (R179). Log 32. -/
def State.haltEngine (s : State) (e : EngineNo) : State := (s.haltPage e).updEng e Engine.dropTransit

/-- Entry to HALTED: the part state and its notice, then each block as its rule gives (R179). The ports that are left without a message switch at the end of the command (`settle`, R66). -/
def State.enterHalted (s : State) : State :=
  let s1 := ({ s with part := .halted } : State).raisePartState
  let s2 := (allSlots.foldl State.haltSlot s1).dropDeviceFrames
  let s3 := (allSlots.foldl State.discardPrefetch s2).dropDeviceWaiting
  let s4 := allEngines.foldl State.haltEngine s3
  { s4 with pay := { s4.pay with tx := [] } }

/-! ## Reports (R178) -/

/-- An enabled uncorrected error acts on FIP (R178). -/
def State.fipAction (s : State) (code : ErrCode) (order : Option OrderNo) : State :=
  match s.part, s.fip with
  | .unconfigured, false | .training, false | .running, false =>
    ({ s with fip := true } : State).raise .fault order
      (b1 (bankNo code.cause.bank).val ++ code.bytes ++ [orderByte order])
  | .training, true | .running, true => s.enterHalted
  | .halted, _ | .unconfigured, true => s

/-- An error reported to its bank: captured and counted, and acting on FIP when it is uncorrected and enabled (R175 to R178). -/
def State.report (s : State) (code : ErrCode) (order : Option OrderNo) (addr : Option ErrAddr) : State :=
  let s1 := s.updBank code.cause.bank (fun b => b.capture code order addr)
  if code.cause.uncorrected && enabledIn (s.bank code.cause.bank).mask code.cause then
    s1.fipAction code order
  else s1

/-- An error of the LINK bank: no order, no address (R188, R174). -/
def State.reportLink (s : State) (c : Cause) : State :=
  s.report { unit := .link, op := .receive, cause := c } none none

/-- An error of the CARD bank, with the slot's bound order (R87). -/
def State.reportCard (s : State) (x : Slot) (op : ErrOp) (c : Cause) (block : Option Nat) : State :=
  s.report { unit := .slot x, op := op, cause := c } (s.slot x).bound (block.map ErrAddr.cardBlock)

/-- An error of the PRINT bank, with the current item's order and the engine state (R174). -/
def State.reportEngine (s : State) (e : EngineNo) (c : Cause) (band : Option Nat) : State :=
  s.report { unit := .engine e, op := .engineIn (s.eng e).state, cause := c }
    ((s.eng e).item.map (·.order)) (band.map ErrAddr.band)

/-- An error of the PAYMENT bank, with the bound order when the monitor is AWAITING (R153, R157). -/
def State.reportPayment (s : State) (c : Cause) : State :=
  s.report { unit := .paymentLine, op := .receive, cause := c }
    (s.pay.monitor.map (·.order)) none

/-! ## Classification (R52 to R56, R67, R68) -/

/-- A generation is marked INVALID (R67, R68). -/
def State.markInvalid (s : State) (gen : Nat) : State :=
  if gen = s.rules.gen then { s with rules := { s.rules with valid := false } }
  else { s with rules := { s.rules with
      barrier := s.rules.barrier.map (fun b => { b with newValid := false }) } }

/-- A message classified under a generation: an INVALID generation is not matched; a bad entry reports RULE_PARITY and marks the generation INVALID (R56, R67, R68). -/
def State.classify (s : State) (gen : Nat) (m : Msg) : State × Verdict :=
  if s.genValid gen then
    let h := scanRules m 0 (s.imageOf gen).rules
    match h with
    | .badParity i =>
      let img : ImageName := if gen = s.rules.gen then .active else .pending
      (((s.markInvalid gen).report { unit := .ruleUnit, op := .matchIn img, cause := .ruleParity }
        none (some (.rule i))), .invalid)
    | .none_ | .hit _ _ => (s, verdictOf m h)
  else (s, .invalid)

/-- The reason a message is refused with outside RUNNING (R179, R196). -/
def PartState.refusal : PartState → Option Status
  | .running => none
  | .unconfigured | .training => some .notReady
  | .halted => some .halted

end Sys2Proof.Machine
end

