-- ==== Sys2Proof/Machine/Link.lean ====
section
/-! DEFINITION. The Link Controller's own commands: symbols, frames received and sent, link loss, frames the Link Controller answers itself (R188 to R195, R200). -/

namespace Sys2Proof.Machine

/-! ## Symbols and the link state (R191, R193) -/

/-- A decoded symbol restarts the link timer while the link is ALIGNING or UP (R193). -/
def Link.restartTimer (l : Link) (now : Nat) : Link :=
  if l.state = .down then l else { l with timer := some now }

/-- A symbol other than IDLE while ALIGNING: the count becomes 0 (R193). -/
def Link.breakAlignment (l : Link) : Link :=
  if l.state = .aligning then { l with alignCount := 0 } else l

/-- Entry to UP: the receive pause symbol is sent and the transmit pause state becomes FREE (R190, R191, R193). -/
def Link.enterUp (l : Link) : Link :=
  { l with state := .up, txHeld := false,
           ctlOut := l.ctlOut ++ [if l.rxPaused then .pause else .resume] }

/-- The Link Controller at an IDLE symbol (R193). -/
def Link.idle (l : Link) (now : Nat) : Link :=
  match l.state with
  | .down => { l with state := .aligning, alignCount := 1, timer := some now }
  | .aligning =>
    let l1 := { l with alignCount := l.alignCount + 1, timer := some now }
    if Config.alignLimit ≤ l1.alignCount then l1.enterUp else l1
  | .up => { l with timer := some now }

/-- IDLE_SYMBOL (R193). -/
def execIdleSymbol (s : State) : Host.Outcome State Fault Refusal :=
  .next { s with link := s.link.idle s.now }

/-- OTHER_SYMBOL_ALIGNING (R193): only in ALIGNING; an undecodable symbol does not restart the timer. -/
def execOtherSymbolAligning (decoded : Bool) (s : State) : Host.Outcome State Fault Refusal :=
  if s.link.state = .aligning then
    .next { s with link :=
      if decoded then s.link.breakAlignment.restartTimer s.now else s.link.breakAlignment }
  else .next s

/-- PAUSE or RESUME received: the transmit pause state while UP, another symbol while ALIGNING (R191, R193). Log 9. -/
def Link.hostPause (l : Link) (held : Bool) (now : Nat) : Link :=
  match l.state with
  | .up => { l with txHeld := held, timer := some now }
  | .aligning => l.breakAlignment.restartTimer now
  | .down => l

/-- PAUSE_SYMBOL_RECEIVED (R191). -/
def execPauseSymbolReceived (s : State) : Host.Outcome State Fault Refusal :=
  .next { s with link := s.link.hostPause true s.now }

/-- RESUME_SYMBOL_RECEIVED (R191). -/
def execResumeSymbolReceived (s : State) : Host.Outcome State Fault Refusal :=
  .next { s with link := s.link.hostPause false s.now }

/-! ## Receiving frames (R188) -/

/-- A frame that has ended, in the sequence of R188: OVERRUN, then FRAME_CRC, else it joins the buffer. -/
def State.receiveFrame (s : State) (bytes : Bytes) (allDecoded : Bool) : State :=
  if bytes.length ≤ Config.frameLimit ∧ Config.downLimit ≤ s.link.downBuf.length then
    s.reportLink .overrun
  else if Config.frameLimit < bytes.length ∨ !allDecoded then s.reportLink .frameCrc
  else match parseFrame bytes with
    | some f => ({ s with link := { s.link with downBuf := s.link.downBuf ++ [f] } } : State).followHeld
    | none => s.reportLink .frameCrc

/-- FRAME_RECEIVE (R188): an end-of-frame symbol. It ends the discarding of an over-long frame (log 8); with the RESET line low the frame is discarded (R198); while ALIGNING its symbols break the alignment (log 9). -/
def execFrameReceive (bytes : Bytes) (allDecoded : Bool) (s : State) : Host.Outcome State Fault Refusal :=
  let s1 := { s with link := s.link.restartTimer s.now }
  match s.link.state with
  | .down => .next s
  | .aligning => .next { s1 with link := s1.link.breakAlignment }
  | .up =>
    if s.link.discarding then .next { s1 with link := { s1.link with discarding := false } }
    else if s.resetLow then .next s1
    else .next (s1.receiveFrame bytes allDecoded)

/-- FRAME_GROWS_PAST_LIMIT (R188): FRAME_CRC, and the symbols up to the next end-of-frame symbol are discarded; no report while the RESET line is low (R198). -/
def execFrameGrowsPastLimit (s : State) : Host.Outcome State Fault Refusal :=
  let s1 := { s with link := s.link.restartTimer s.now }
  match s.link.state with
  | .down => .next s
  | .aligning => .next { s1 with link := s1.link.breakAlignment }
  | .up =>
    if s.link.discarding then .next s1
    else
      let s2 := if s.resetLow then s1 else s1.reportLink .frameCrc
      .next { s2 with link := { s2.link with discarding := true } }

/-! ## Sending frames (R191, R200) -/

/-- The queue that supplies the next frame (R191). -/
def Link.supplier (l : Link) : Option Supplier :=
  match l.upQueue, l.notices with
  | [], [] => none
  | _ :: _, [] => some .upstream
  | [], _ :: _ => some .notices
  | _ :: _, _ :: _ =>
    match l.lastSupplier with
    | .upstream => some .notices
    | .notices => some .upstream

/-- The bytes of the head frame of a queue; a notice takes the lost count as it stands (R200). -/
def Link.headWire (l : Link) : Supplier → Option Bytes
  | .upstream => l.upQueue.head?.map UpFrame.wire
  | .notices => l.notices.head?.map (fun n => (n.frame l.lost).wire)

/-- FRAME_SEND_START (R191): the link UP, the transmit pause state FREE, nothing being sent, a frame waiting; while the RESET line is low too (the model's choice, log 77). -/
def execFrameSendStart (s : State) : Host.Outcome State Fault Refusal :=
  if s.link.state = .up ∧ !s.link.txHeld ∧ s.link.sending.isNone then
    match s.link.supplier with
    | some q => match s.link.headWire q with
      | some w => .next { s with link := { s.link with sending := some { source := q, wire := w } } }
      | none => .next s
    | none => .next s
  else .next s

/-- The queues after a frame's last symbol (R191, R200). -/
def Link.sent (l : Link) : Supplier → Link
  | .upstream => { l with upQueue := l.upQueue.tail, sending := none, lastSupplier := .upstream }
  | .notices =>
    { l with notices := l.notices.tail, lost := 0, sending := none, lastSupplier := .notices }

/-- FRAME_SEND_END (R200): the frame leaves its queue; after a notice the lost count becomes 0. It acts while the RESET line is low too (the model's choice, log 77). -/
def execFrameSendEnd (s : State) : Host.Outcome State Fault Refusal :=
  match s.link.sending with
  | some snd => .next { s with link := s.link.sent snd.source }
  | none => .next s

/-- UPSTREAM_PLACE_WAITING (R192): the frame that has waited longest takes the free place, and its block continues. -/
def execUpstreamPlaceWaiting (s : State) : Host.Outcome State Fault Refusal :=
  match s.link.waiting with
  | w :: rest =>
    if s.room then
      .next (((({ s with link := { s.link with waiting := rest } } : State).place w.frame).continueAfter
        w.owner).settle)
    else .next s
  | [] => .next s

/-! ## Link loss (R194, R94) -/

/-- A slot's request when the link goes DOWN (R94): a READ to link stops at the next block boundary or is dropped, a collecting WRITE is dropped, every other request goes on. A READ that awaits its next block stops after that block or its timeout (log 57). -/
def State.linkLossSlot (s : State) (x : Slot) : State :=
  match (s.slot x).request with
  | none => s
  | some q =>
    if q.finish.isSome then s
    else match q.kind, q.phase with
      | .readLink, .waiting | .readLink, .collecting | .write, .collecting => s.endRequest x .kept
      | .readLink, .onBus =>
        match s.bus.grant with
        | some g =>
          if g.slot = x ∧ !g.prefetch then
            if g.stage = .reading then s.setGrant (some { g with stop := some (g.stop.getD .linkDown) })
            else s.stopNow x
          else s
        | none => s
      | _, _ => s

/-- The Link Controller at link loss (R194). -/
def Link.lose (l : Link) : Link :=
  { l with state := .down, timer := none, discarding := false, upQueue := [], waiting := [],
           sending := none, txHeld := false }

/-- LINK_TIMER_EXPIRY (R194): DOWN, the upstream queue and the frames waiting discarded, the blocks waiting go on, the slots as R94 gives. -/
def execLinkTimerExpiry (s : State) : Host.Outcome State Fault Refusal :=
  if s.link.state = .down then .next s
  else
    let s1 := { s with link := s.link.lose }
    let s2 := allSlots.foldl State.linkLossSlot s1
    .next (s.link.waiting.foldl (fun acc w => acc.continueAfter w.owner) s2).settle

/-! ## Frames the Link Controller answers (R189, R195) -/

/-- BAD_HEADER_FRAME (R189): BAD_HEADER to the LINK bank and a REFUSAL with BAD_FRAME. -/
def execBadHeaderFrame (s : State) : Host.Outcome State Fault Refusal :=
  .next (s.takeAs .badHeader (fun f s1 => (s1.reportLink .badHeader).refuse f .badFrame []))

/-- MISROUTED_FRAME (R189): a REFUSAL with BAD_REQUEST, on every channel and in every part state. Log 15. -/
def execMisroutedFrame (s : State) : Host.Outcome State Fault Refusal :=
  .next (s.takeAs .misrouted (fun f s1 => s1.refuse f .badRequest []))

/-- The request code a RESPONSE repeats; a free value where the payload holds none (R204). Log 12. -/
def State.echoCode (s : State) (f : DownFrame) : State × Bytes :=
  match f.payload with
  | c0 :: c1 :: _ => (s, [c0, c1])
  | _ => ({ s with free := s.free + 1 }, toBytes 2 (Config.missingCode s.free).toNat)

/-- A slot of a slot channel (R187). -/
def slotOfChannel (c : Nat) : Option Slot := if 2 ≤ c then slotOf (c - 2) else none

/-- A WRITE of the slot is COLLECTING (R90); one that a removal has ended collects no more (R74). -/
def State.collecting (s : State) (x : Slot) : Bool :=
  match (s.slot x).request with
  | some q => q.phase == .collecting && q.finish.isNone
  | none => false

/-- The answer to a frame of no known request: a RESPONSE on MGMT and, after the part state check of R43, on BULK; a REFUSAL on a slot channel after the part state check and R90. Log 15. -/
def State.answerUnknown (s : State) (f : DownFrame) : State :=
  if f.chan = 0 then (s.echoCode f).1.respond f (s.echoCode f).2 .badRequest []
  else match slotOfChannel f.chan with
    | some x =>
      s.refuse f ((s.part.refusal).getD (if s.collecting x then .slotBusy else .badRequest)) []
    | none => (s.echoCode f).1.respond f (s.echoCode f).2 ((s.part.refusal).getD .badRequest) []

/-- UNKNOWN_REQUEST (R195). -/
def execUnknownRequest (s : State) : Host.Outcome State Fault Refusal :=
  .next (s.takeAs .unknown (fun f s1 => s1.answerUnknown f))

end Sys2Proof.Machine
end

