-- ==== Sys2Proof/Machine/Part.lean ====
section
/-! DEFINITION. Management dispatch, part states and resets, training, and the bank requests (R24 to R28, R181 to R186, R195 to R198, R201). -/

namespace Sys2Proof.Machine

/-! ## Management dispatch (R195) -/

/-- The answer of a request: the state it leaves, its status and its results. -/
structure Reply where
  st      : State
  status  : Status
  results : Bytes

/-- A refused request changes nothing (R2). -/
def Reply.no (s : State) (st : Status) : Reply := { st := s, status := st, results := [] }

/-- A request carried out. -/
def Reply.yes (s : State) (results : Bytes) : Reply := { st := s, status := .ok, results := results }

/-- The part state check of R195: none is taken, otherwise the status of the answer. -/
def gate (r : MgmtReq) (p : PartState) : Option Status :=
  match r with
  | .identifyPart | .readBank | .resetPart => none
  | .clearBank | .setBankMask | .clearFault =>
    match p with
    | .unconfigured | .running => none
    | .training => some .notReady
    | .halted => some .halted
  | .configure =>
    match p with
    | .unconfigured => none
    | .training => some .notReady
    | .running => some .busy
    | .halted => some .halted
  | .readOrder | .readPool | .readEngine | .readImage =>
    match p with
    | .unconfigured | .training => some .notReady
    | .running | .halted => none
  | .openOrder | .bindSlot | .unbindSlot | .cancelOrder | .closeOrder | .resolvePayment
  | .growWindow | .loadRules | .loadPrices | .loadSlotProfile | .loadEngineProfile
  | .loadPaymentProfile | .discardPending | .commitTables | .submitItem | .resumeItem
  | .withdrawItem => p.refusal

/-- The fields of a management request: its payload after the request code (R204). -/
def DownFrame.fields (f : DownFrame) : Bytes := f.payload.drop 2

/-- A management request's RESPONSE (R195, R204). -/
def State.answer (s : State) (r : MgmtReq) (f : DownFrame) (st : Status) (results : Bytes) : State :=
  s.respond f (toBytes 2 r.code) st results

/-- The take of a management request: the part state check, then the request's own rule, then its RESPONSE in the same step (R195). -/
def State.takeMgmt (s : State) (r : MgmtReq) (k : State → DownFrame → Reply) : State :=
  s.takeAs (.mgmt r) (fun f s1 =>
    match gate r s1.part with
    | some st => s1.answer r f st []
    | none => (k s1 f).st.answer r f (k s1 f).status (k s1 f).results)

/-- A request that carries no fields; any other payload is of the wrong length (R2, R195). Log 18. -/
def noFields (s : State) (f : DownFrame) (k : Reply) : Reply :=
  match f.fields with
  | [] => k
  | _ :: _ => .no s .badRequest

/-- Step 3 of R2: the order field names a record in use. -/
def withOrder (s : State) (f : DownFrame) (k : OrderNo → Reply) : Reply :=
  match orderOfByte f.order with
  | some n => if (s.order n).state = .free then .no s .noOrder else k n
  | none => .no s .noOrder

/-! ## Power-on and resets (R22, R47, R93, R150, R171, R186, R198, R201) -/

/-- A slot after a reset; its debounce begins when a card shows and detection runs (R73, R93). -/
def SlotRec.reset (r : SlotRec) (detect : Bool) (now : Nat) : SlotRec :=
  .atReset r.pin (if detect && r.pin then .running now else .idle)

/-- POWER_ON (R201): every block takes its power-on values; the card-detect inputs, the time, the counter of free values and the queue of commands are the outside world's. -/
def execPowerOn (s : State) : Host.Outcome State Fault Refusal :=
  .next { State.reset with
    pending := s.pending, now := s.now, free := s.free,
    slots := s.slots.map (fun r => r.reset true s.now) }

/-- The page maps handed back in ascending order number, and every entry of the scrub queue without attribution (R22, R47). -/
def State.resetSmc (s : State) : Smc :=
  let m0 := { s.smc with
    scrubQ := s.smc.scrubQ.map (fun e => { e with order := none }), scrubbing := false, bulk := none }
  let m1 := allOrders.foldl (fun m n => m.takeBack (s.order n).map none) m0
  if s.smc.trained then m1 else { m1 with geometry := none }

/-- A Band Streamer at a part reset: ABANDON for an open page, nothing else kept waiting; the message being sent goes out (R150), and a host transit message stays in flight until its last byte (R57). -/
def Engine.reset (g : Engine) : Engine :=
  { Engine.atReset with
    lineBusy := g.lineBusy,
    lineWait := match g.state with
      | .opening | .streaming => [.abandon]
      | .offline | .idle | .closing | .abandoning | .faulted => [],
    transit := g.dropTransit.transit }

/-- The Link Controller at a part reset (R198). -/
def State.resetLink (s : State) : State :=
  ({ s.dropDeviceFrames with
      link := { s.dropDeviceFrames.link with downBuf := [], waiting := [] } } : State).followHeld

/-- The part reset (R198, R22), without the part state and the notice that its end brings; `detect` says that card detection starts at once. -/
def State.partReset (s : State) (detect : Bool) : State :=
  { s.resetLink with
    fip := false,
    orders := Vector.replicate 16 .blank, lastServed := 15,
    smc := s.resetSmc,
    rules := .atReset,
    slots := s.slots.map (fun r => r.reset detect s.now), ctxs := Vector.replicate 4 none,
    bus := .atReset,
    engines := s.engines.map Engine.reset,
    pay := .atReset }

/-- The part leaves a reset: RUNNING when training had succeeded, UNCONFIGURED otherwise, with its notice (R198). -/
def State.leaveReset (s : State) : State :=
  ({ s with part := if s.smc.trained then .running else .unconfigured } : State).raisePartState

/-- RESET_LINE_LOW (R198): the part reset without a RESPONSE; the part is held at its reset values. -/
def execResetLineLow (s : State) : Host.Outcome State Fault Refusal :=
  if s.resetLow then .next s
  else .next { s.partReset false with resetLow := true }

/-- RESET_LINE_HIGH (R198): the part leaves the reset and card detection starts. Log 40. -/
def execResetLineHigh (s : State) : Host.Outcome State Fault Refusal :=
  if s.resetLow then
    .next ({ s with resetLow := false, slots := s.slots.map (fun r => r.reset true s.now) } :
      State).leaveReset
  else .next s

/-- RESET_PART (R198): its RESPONSE with OK is placed and the part reset is performed, in one step. -/
def execResetPart (s : State) : Host.Outcome State Fault Refusal :=
  .next (s.takeAs (.mgmt .resetPart) (fun f s1 =>
    if f.fields = [] then ((s1.answer .resetPart f .ok []).partReset true).leaveReset
    else s1.answer .resetPart f .badRequest []))

/-! ## IDENTIFY_PART and CONFIGURE (R24, R197) -/

/-- Usable pages once training has succeeded, 0 before (R36, R197). -/
def State.totalPages (s : State) : Nat :=
  match s.smc.trained, s.smc.geometry with
  | true, some g => g.usable
  | _, _ => 0

/-- The results of IDENTIFY_PART in the order of R197. -/
def State.identity (s : State) : Bytes :=
  Config.partIdentifier ++ b1 (Config.revisionLessOne.val + 1) ++ b1 s.part.code ++ flagByte s.fip
    ++ optWide (s.smc.geometry.map (fun g => toBytes 2 g.size))
    ++ opt1 (s.smc.geometry.map (fun g => if g.ecc then 1 else 0))
    ++ opt1 (s.smc.geometry.map (fun g => g.grade - 1))
    ++ toBytes 2 s.totalPages ++ toBytes 2 s.smc.linkTimeout ++ toBytes 2 s.smc.threshold
    ++ toBytes 2 s.rules.gen ++ flagByte s.rules.valid ++ toBytes 2 s.link.lost

/-- IDENTIFY_PART (R197). -/
def execIdentifyPart (s : State) : Host.Outcome State Fault Refusal :=
  .next (s.takeMgmt .identifyPart (fun s1 f => noFields s1 f (.yes s1 s1.identity)))

/-- The five fields of CONFIGURE in their ranges (R24). -/
def configFields (fields : Bytes) : Option (Geometry × Nat × Nat) :=
  match fields with
  | [z0, z1, e, g, l0, l1, t0, t1] =>
    let size := beNat [z0, z1]
    let limit := beNat [l0, l1]
    let low := beNat [t0, t1]
    match flagOf e with
    | some ecc =>
      if (size = 256 ∨ size = 512 ∨ size = 1024) ∧ g.toNat < 3 ∧ 1 ≤ limit ∧ limit ≤ 1000
          ∧ low ≤ 16384 then
        some ({ size := size, ecc := ecc, grade := g.toNat + 1 }, limit, low)
      else none
    | none => none
  | _ => none

/-- CONFIGURE carried out: the five values are recorded and training begins (R24). -/
def State.configure (s : State) (c : Geometry × Nat × Nat) : State :=
  { s with
    part := .training,
    smc := { s.smc with geometry := some c.1, linkTimeout := c.2.1, threshold := c.2.2 } }

/-- The rule of CONFIGURE (R24). -/
def configureReply (s : State) (f : DownFrame) : Reply :=
  match configFields f.fields with
  | some c => .yes (s.configure c) (b1 PartState.training.code)
  | none => .no s .badRequest

/-- CONFIGURE (R24). -/
def execConfigure (s : State) : Host.Outcome State Fault Refusal :=
  .next (s.takeMgmt .configure configureReply)

/-! ## Training (R26, R27) -/

/-- Every usable page in ascending number, without attribution (R26). -/
def freshQueue (g : Geometry) : List ScrubEntry :=
  (List.range g.usable).map (fun p => { page := p, order := none })

/-- TRAINING_SUCCEEDED (R26). What INITIALISE writes is not given: the DRAM and its check data stay as they are. Log 54. -/
def execTrainingSucceeded (s : State) : Host.Outcome State Fault Refusal :=
  match s.part, s.resetLow, s.smc.geometry with
  | .training, false, some g =>
    .next ({ s with
      part := .running,
      smc := { s.smc with
        trained := true, freePool := [], scrubQ := freshQueue g, scrubbing := false,
        retired := [] } } : State).raisePartState
  | _, _, _ => .next s

/-- TRAINING_FAILED (R27): the geometry is forgotten, the error is reported, and the part is UNCONFIGURED with its notice unless the error halted it. Log 41. -/
def execTrainingFailed (at_ : TrainStep) (s : State) : Host.Outcome State Fault Refusal :=
  if s.part = .training ∧ !s.resetLow then
    let s1 := ({ s with smc := { s.smc with geometry := none } } : State).report
      { unit := .smc, op := .train at_, cause := .trainingFailed } none none
    if s1.part = .halted then .next s1
    else .next ({ s1 with part := .unconfigured } : State).raisePartState
  else .next s

/-! ## Bank requests (R181 to R185) -/

/-- A bank record as READ_BANK carries it (R173, R203). Log 14. -/
def recordBytes : Option ErrRec → Bytes
  | some r =>
    [1] ++ flagByte r.overflow ++ flagByte r.uncorrected ++ flagByte r.enabled
      ++ [orderByte r.order] ++ optWide (r.addr.map ErrAddr.bytes) ++ r.code.bytes
  | none => [0, 0, 0, 0, 0xFF, 0, 0xFF, 0xFF, 0xFF]

/-- READ_BANK's answer (R182). -/
def readBankReply (s : State) (f : DownFrame) : Reply :=
  match f.fields with
  | [b] => match bankOf b.toNat with
    | some k =>
      .yes s (recordBytes (s.bank k).record ++ b1 (s.bank k).mask.toNat
        ++ toBytes 2 (s.bank k).count ++ flagByte s.fip ++ b1 s.part.code)
    | none => .no s .badRequest
  | _ => .no s .badRequest

/-- READ_BANK (R182). -/
def execReadBank (s : State) : Host.Outcome State Fault Refusal :=
  .next (s.takeMgmt .readBank readBankReply)

/-- CLEAR_BANK's rule (R183): KEEP is 0 and ZERO 1. -/
def clearBankReply (s : State) (f : DownFrame) : Reply :=
  match f.fields with
  | [b, c] => match bankOf b.toNat, flagOf c with
    | some k, some zero =>
      .yes (s.updBank k (fun x => { x with record := none, count := if zero then 0 else x.count }))
        (recordBytes (s.bank k).record)
    | _, _ => .no s .badRequest
  | _ => .no s .badRequest

/-- CLEAR_BANK (R183). -/
def execClearBank (s : State) : Host.Outcome State Fault Refusal :=
  .next (s.takeMgmt .clearBank clearBankReply)

/-- SET_BANK_MASK's rule (R184): a cause of another bank is out of range (R181). -/
def setBankMaskReply (s : State) (f : DownFrame) : Reply :=
  match f.fields with
  | [b, m] => match bankOf b.toNat with
    | some k =>
      if m &&& ~~~ bankCauses k = 0 then
        .yes (s.updBank k (fun x => { x with mask := m })) (b1 (s.bank k).mask.toNat)
      else .no s .badRequest
    | none => .no s .badRequest
  | _ => .no s .badRequest

/-- SET_BANK_MASK (R184). -/
def execSetBankMask (s : State) : Host.Outcome State Fault Refusal :=
  .next (s.takeMgmt .setBankMask setBankMaskReply)

/-- CLEAR_FAULT (R185). -/
def execClearFault (s : State) : Host.Outcome State Fault Refusal :=
  .next (s.takeMgmt .clearFault
    (fun s1 f => noFields s1 f (.yes { s1 with fip := false } (flagByte s1.fip))))

end Sys2Proof.Machine
end

