-- ==== Sys2Proof/Machine/Staging.lean ====
section
/-! DEFINITION. Accesses to order data through a window, bulk requests, and the scrubber (R31, R38 to R45). -/

namespace Sys2Proof.Machine

/-! ## Reads of order data (R38 to R42) -/

/-- The ECC mode is ON (R24). -/
def State.eccOn (s : State) : Bool :=
  match s.smc.geometry with
  | some g => g.ecc
  | none => false

/-- The page is one that the configured DRAM gives to orders (R25). -/
def State.hasPage (s : State) (p : Nat) : Bool :=
  match s.smc.geometry with
  | some g => p < g.usable
  | none => false

/-- The bit errors that words of an order's window have acquired by now; with ECC OFF nothing is checked (R42). Log 6, log 43. -/
def State.applyUpsets (s : State) (n : OrderNo) (ups : List Upset) : State :=
  if s.eccOn then
    ups.foldl (fun acc u =>
      match translate (acc.order n).map u.offset with
      | some a => { acc with smc := { acc.smc with ecc := eccSet acc.smc.ecc (wordOf a) u.err } }
      | none => acc) s
  else s

/-- A map entry is poisoned. -/
def State.poisoned (s : State) (n : OrderNo) (entry : Nat) : Bool :=
  match (s.order n).map[entry]? with
  | some e => e.poisoned
  | none => false

/-- The window offset of a word of a map entry (R39). -/
def wordOffset (entry addr : Nat) : Nat := entry * Config.pageBytes + addr % Config.pageBytes

/-- The error code of an ECC cause (R174). -/
def eccCode (op : ErrOp) (c : Cause) : ErrCode := { unit := .smc, op := op, cause := c }

/-- A corrected word (R39). -/
def State.correctedWord (s : State) (n : OrderNo) (op : ErrOp) (entry page addr : Nat) : State :=
  s.report (eccCode op .eccCorrected) (some n) (some (.window (wordOffset entry addr) page))

/-- Steps 1 to 3 of R40: the map entry is poisoned, the error is reported, the fault record is set when absent (R6). -/
def State.uncorrectedWord (s : State) (n : OrderNo) (op : ErrOp) (entry page addr : Nat) : State :=
  ((s.updOrder n (fun o => { o with
        map := o.map.modify entry (fun e => { e with poisoned := true }) })).report
      (eccCode op .eccUncorrected) (some n) (some (.window (wordOffset entry addr) page))).updOrder n
    (fun o => { o with
      faultRec := some (o.faultRec.getD
        { code := eccCode op .eccUncorrected, offset := wordOffset entry addr }) })

/-- The words in error of one page part, in address order, until one is not corrected; the flag says that none was (R39, R40). -/
def State.checkWords (s : State) (n : OrderNo) (op : ErrOp) (entry page : Nat) :
    List (Nat × EccErr) → State × Bool
  | [] => (s, true)
  | (a, .single) :: es => (s.correctedWord n op entry page a).checkWords n op entry page es
  | (a, .double) :: _ => (s.uncorrectedWord n op entry page a, false)

/-- How an access ended. -/
inductive Access where
  | data (s : State) (bytes : Bytes)
  | poisoned (s : State)
  | fault (f : Fault)

/-- The state an access leaves; an access that faults leaves none. -/
def Access.state? : Access → Option State
  | .data s _ => some s
  | .poisoned s => some s
  | .fault _ => none

/-- The parts of a read in offset order, until one ends it (R38 to R42). -/
def State.readPartsChecked (s : State) (n : OrderNo) (op : ErrOp) : List PagePart → Bytes → Access
  | [], acc => .data s acc
  | p :: ps, acc =>
    if !s.hasPage p.page then .fault .noSuchPage
    else if !s.eccOn then s.readPartsChecked n op ps (acc ++ s.smc.dram.readRange p.addr p.length)
    else if s.poisoned n p.entry then .poisoned s
    else match s.checkWords n op p.entry p.page (eccIn s.smc.ecc p.addr p.length) with
      | (s1, true) => s1.readPartsChecked n op ps (acc ++ s.smc.dram.readRange p.addr p.length)
      | (s1, false) => .poisoned s1

/-- A read of `len` bytes at a window offset (R38 to R42). -/
def State.readWindow (s : State) (n : OrderNo) (op : ErrOp) (offset len : Nat) : Access :=
  if offset + len ≤ windowSize (s.order n).map then
    s.readPartsChecked n op (pageParts offset len 0 (s.order n).map) []
  else .fault .outsideWindow

/-! ## Writes of order data (R38, R40, R41, R44, R99) -/

/-- The words of a write that it covers only in part (R25, R40). -/
def partialWords (addr len : Nat) : List Nat :=
  (if addr % 4 ≠ 0 ∨ len < 4 - addr % 4 then [wordOf addr] else [])
    ++ (if (addr + len) % 4 ≠ 0 ∧ wordOf (addr + len) ≠ wordOf addr then [wordOf (addr + len)] else [])

/-- The words read before a merge: those covered in part that are in error, on a page not poisoned, with ECC ON (R40). -/
def State.mergeReads (s : State) (n : OrderNo) (p : PagePart) : List (Nat × EccErr) :=
  if s.eccOn && !s.poisoned n p.entry then
    (eccIn s.smc.ecc p.addr p.length).filter (fun e => (partialWords p.addr p.length).contains e.1)
  else []

/-- One part of a write: its merge reads, its bytes, and new check data (R40, R41). Of a word with two bits in error the bytes that are not written keep what the DRAM list holds (the model's choice, log 65). -/
def State.writePart (s : State) (n : OrderNo) (p : PagePart) (bytes : Bytes) : State :=
  let s1 := (s.checkWords n .writeMerge p.entry p.page (s.mergeReads n p)).1
  { s1 with smc := { s1.smc with
      dram := s1.smc.dram.write p.addr (bytes.take p.length),
      ecc := eccClear s1.smc.ecc p.addr p.length } }

/-- The parts of a write in offset order (R38, R44). -/
def State.writePartsChecked (s : State) (n : OrderNo) : List PagePart → Bytes → Access
  | [], _ => .data s []
  | p :: ps, bytes =>
    if s.hasPage p.page then
      (s.writePart n p bytes).writePartsChecked n ps (bytes.drop p.length)
    else .fault .noSuchPage

/-- A write of bytes at a window offset (R38). -/
def State.writeWindow (s : State) (n : OrderNo) (offset : Nat) (bytes : Bytes) : Access :=
  if offset + bytes.length ≤ windowSize (s.order n).map then
    s.writePartsChecked n (pageParts offset bytes.length 0 (s.order n).map) bytes
  else .fault .outsideWindow

/-- The poisoned pages among those an access touches (R44). -/
def State.poisonedPages (s : State) (n : OrderNo) (offset len : Nat) : Nat :=
  ((pageParts offset len 0 (s.order n).map).filter (fun p => s.poisoned n p.entry)).length

/-! ## Bulk requests (R43, R44, R192) -/

/-- A bulk request whose access has been made: its status and results (R43, R44). -/
def State.withBulkResult (s : State) (b : BulkReq) (st : Status) (results : Bytes) : State :=
  { s with smc := { s.smc with bulk := some { b with result := some (st, results) } } }

/-- The access of a bulk request is made; the request holds its result (R43, R44). -/
def State.performBulk (s : State) (b : BulkReq) : Access :=
  match b.result, b.kind with
  | some _, _ => .data s []
  | none, .read len =>
    match s.readWindow b.order .bulkRead b.offset len with
    | .data s1 bytes => .data (s1.withBulkResult b .ok bytes) []
    | .poisoned s1 => .data (s1.withBulkResult b .dataPoisoned []) []
    | .fault f => .fault f
  | none, .write bytes =>
    match s.writeWindow b.order b.offset bytes with
    | .data s1 _ | .poisoned s1 =>
      .data (s1.withBulkResult b .ok (b1 (s1.poisonedPages b.order b.offset bytes.length))) []
    | .fault f => .fault f

/-- The bytes a bulk request reads or writes. -/
def BulkKind.length : BulkKind → Nat
  | .read len => len | .write data => data.length

/-- A bulk request of order n that has not been carried out, on a same unit of `unit` bytes as the `len` bytes at `offset` (R45). -/
def BulkReq.meets (b : BulkReq) (n : OrderNo) (unit offset len : Nat) : Bool :=
  b.result.isNone && b.order == n
    && b.offset / unit ≤ (offset + len - 1) / unit
    && offset / unit ≤ (b.offset + b.kind.length - 1) / unit

/-- The bulk request in progress is carried out now where `p` holds of it. It takes no upsets here. Log 27. -/
def State.bulkWhen (s : State) (p : BulkReq → Bool) : Access :=
  match s.smc.bulk with
  | some b => if p b then s.performBulk b else .data s []
  | none => .data s []

/-- Another access of order n comes after a bulk request that was taken before it and meets it (R45). Log 27. -/
def State.bulkFirst (s : State) (n : OrderNo) (unit offset len : Nat) : Access :=
  s.bulkWhen (fun b => b.meets n unit offset len)

/-- Checks 4 to 6 of R43, and the request begins to be carried out, with its place reserved (R192). -/
def State.takeBulk (s : State) (f : DownFrame) (code : Bytes) (offset len : Nat) (kind : BulkKind) :
    State :=
  match orderOfByte f.order with
  | none => s.respond f code .noOrder []
  | some n =>
    if (s.order n).state = .free then s.respond f code .noOrder []
    else if !(s.order n).live then s.respond f code .orderState []
    else if windowSize (s.order n).map < offset + len then s.respond f code .outOfWindow []
    else { s with smc := { s.smc with
      bulk := some { tag := f.tag, order := n, offset := offset, kind := kind, result := none } } }

/-- BULK_READ's take (R43). -/
def State.takeBulkRead (s : State) (f : DownFrame) : State :=
  let code := toBytes 2 bulkReadCode
  match s.part.refusal, f.fields with
  | some st, _ => s.respond f code st []
  | none, [o0, o1, o2, o3, l0, l1] =>
    if 1 ≤ beNat [l0, l1] ∧ beNat [l0, l1] ≤ 2045 then
      s.takeBulk f code (beNat [o0, o1, o2, o3]) (beNat [l0, l1]) (.read (beNat [l0, l1]))
    else s.respond f code .badRequest []
  | none, _ => s.respond f code .badRequest []

/-- BULK_WRITE's take (R43, R44). -/
def State.takeBulkWrite (s : State) (f : DownFrame) : State :=
  let code := toBytes 2 bulkWriteCode
  match s.part.refusal, f.fields with
  | some st, _ => s.respond f code st []
  | none, o0 :: o1 :: o2 :: o3 :: data =>
    if 1 ≤ data.length ∧ data.length ≤ 2042 then
      s.takeBulk f code (beNat [o0, o1, o2, o3]) data.length (.write data)
    else s.respond f code .badRequest []
  | none, _ => s.respond f code .badRequest []

/-- BULK_READ (R43). -/
def execBulkRead (s : State) : Host.Outcome State Fault Refusal :=
  .next (s.takeAs .bulkRead (fun f s1 => s1.takeBulkRead f))

/-- BULK_WRITE (R43, R44). -/
def execBulkWrite (s : State) : Host.Outcome State Fault Refusal :=
  .next (s.takeAs .bulkWrite (fun f s1 => s1.takeBulkWrite f))

/-- The code of a bulk request (R204). -/
def BulkKind.code : BulkKind → Nat
  | .read _ => bulkReadCode | .write _ => bulkWriteCode

/-- The bulk request ends: its RESPONSE in its reserved place (R43, R192). -/
def State.endBulk (s : State) : State :=
  match s.smc.bulk with
  | some b => match b.result with
    | some (st, results) =>
      ({ s with smc := { s.smc with bulk := none } } : State).place
        { chan := 9, kind := .response, order := orderByte (some b.order), fip := s.fip,
          tag := b.tag, payload := toBytes 2 b.kind.code ++ b1 st.code ++ results }
    | none => s
  | none => s

/-- BULK_ACCESS_COMPLETE (R43, R44): the access, unless another command that came after it made it already (R45, log 27), and the RESPONSE. -/
def execBulkAccessComplete (upsets : List Upset) (s : State) : Host.Outcome State Fault Refusal :=
  match s.smc.bulk with
  | none => .next s
  | some b =>
    match (if b.result.isSome then s else s.applyUpsets b.order upsets).performBulk b with
    | .data s1 _ | .poisoned s1 => .next s1.endBulk.settle
    | .fault f => .fault f

/-! ## The scrubber (R17, R31, R32) -/

/-- The scrubber works: in RUNNING and HALTED after a successful training, the part not held in reset (R32). -/
def State.scrubberRuns (s : State) : Bool :=
  s.smc.trained && !s.resetLow && (s.part == .running || s.part == .halted)

/-- SCRUB_START (R31): the head of the scrub queue. -/
def execScrubStart (s : State) : Host.Outcome State Fault Refusal :=
  if s.scrubberRuns ∧ !s.smc.scrubbing ∧ !s.smc.scrubQ.isEmpty then
    .next { s with smc := { s.smc with scrubbing := true } }
  else .next s

/-- A page of a closing order left the scrub queue: its pages awaiting scrub fall by one, and at 0 it is released (R17). -/
def State.pageLeft (s : State) (order : Option OrderNo) : State :=
  match order with
  | none => s
  | some n =>
    let s1 := s.updOrder n (fun o => { o with awaiting := o.awaiting - 1 })
    if (s1.order n).state = .closing ∧ (s1.order n).awaiting = 0 then s1.release n else s1

/-- The page at the head is zeroed and leaves the scrub queue for the free pool or the retired set (R31). -/
def Smc.scrubbed (m : Smc) (e : ScrubEntry) (rest : List ScrubEntry) (clean : Bool) : Smc :=
  { m with
    scrubQ := rest, scrubbing := false,
    freePool := if clean then m.freePool ++ [e.page] else m.freePool,
    retired := if clean then m.retired else retire m.retired e.page,
    dram := m.dram.erase (e.page * Config.pageBytes) Config.pageBytes,
    ecc := eccClear m.ecc (e.page * Config.pageBytes) Config.pageBytes }

/-- SCRUB_COMPLETE (R31): the head page leaves; a page that fails its verify is reported and retired. -/
def execScrubComplete (clean : Bool) (s : State) : Host.Outcome State Fault Refusal :=
  match s.scrubberRuns, s.smc.scrubbing, s.smc.scrubQ with
  | true, true, e :: rest =>
    let s1 := { s with smc := s.smc.scrubbed e rest clean }
    let s2 := if clean then s1
      else s1.report { unit := .smc, op := .scrub, cause := .scrubVerify } none (some (.page e.page))
    .next (s2.pageLeft e.order)
  | _, _, _ => .next s

end Sys2Proof.Machine
end

