-- ==== Sys2Proof/Machine/Orders.lean ====
section
/-! DEFINITION. The order requests, the window and pool requests, and RESOLVE_PAYMENT (R9 to R18, R35 to R37, R167, R168). -/

namespace Sys2Proof.Machine

/-! ## OPEN_ORDER (R9) -/

/-- The lowest-numbered FREE record (R9). -/
def State.lowestFree (s : State) : Option OrderNo :=
  allOrders.find? (fun n => (s.order n).state == .free)

/-- The record OPEN_ORDER sets (R1). -/
def Order.opened (tag : Word32) (p : Permits) : Order :=
  { Order.blank with state := .open_, tag := tag, permits := p }

/-- The rule of OPEN_ORDER (R9). -/
def openOrderReply (s : State) (f : DownFrame) : Reply :=
  match f.fields with
  | [t0, t1, t2, t3, p] => match permitsOf p with
    | some permits => match s.lowestFree with
      | some n =>
        .yes (s.updOrder n (fun _ => .opened (BitVec.ofNat 32 (beNat [t0, t1, t2, t3])) permits))
          [orderByte (some n)]
      | none => .no s .orderTableFull
    | none => .no s .badRequest
  | _ => .no s .badRequest

/-- OPEN_ORDER (R9). -/
def execOpenOrder (s : State) : Host.Outcome State Fault Refusal :=
  .next (s.takeMgmt .openOrder openOrderReply)

/-! ## Slot binding (R10, R11) -/

/-- Both sides of a binding (R10). -/
def State.bind (s : State) (n : OrderNo) (x : Slot) : State :=
  (s.updOrder n (fun o => { o with slot := some x })).updSlot x (fun r => { r with bound := some n })

/-- The rule of BIND_SLOT (R10). -/
def bindSlotReply (s : State) (f : DownFrame) : Reply :=
  match f.fields with
  | [b] => match slotOf b.toNat with
    | some x => withOrder s f (fun n =>
        if (s.order n).state ≠ .open_ ∨ (s.order n).slot.isSome then .no s .orderState
        else if (s.slot x).bound.isSome ∨ (s.slot x).base.isNone then .no s .slotState
        else .yes (s.bind n x) [])
    | none => .no s .badRequest
  | _ => .no s .badRequest

/-- BIND_SLOT (R10). -/
def execBindSlot (s : State) : Host.Outcome State Fault Refusal :=
  .next (s.takeMgmt .bindSlot bindSlotReply)

/-- The rule of UNBIND_SLOT (R11). -/
def unbindSlotReply (s : State) (f : DownFrame) : Reply :=
  noFields s f (withOrder s f (fun n =>
    if !(s.order n).live then .no s .orderState
    else match (s.order n).slot with
      | none => .no s .notBound
      | some x =>
        if (s.slot x).request.isSome then .no s .busy
        else .yes (s.unbind x) (b1 (slotNo x).val)))

/-- UNBIND_SLOT (R11). -/
def execUnbindSlot (s : State) : Host.Outcome State Fault Refusal :=
  .next (s.takeMgmt .unbindSlot unbindSlotReply)

/-! ## CANCEL_ORDER (R13, R14) -/

/-- An item step 1 of R13 withdraws. -/
def Item.withdrawable (it : Item) : Bool :=
  it.state == .pending || it.state == .held || it.state == .queued

/-- A withdrawable item becomes WITHDRAWN. -/
def Item.withdraw (it : Item) : Item := if it.withdrawable then { it with state := .withdrawn } else it

/-- The order's references leave both engine queues; the other entries keep their order (R13). -/
def State.dropRefs (s : State) (n : OrderNo) : State :=
  { s with engines := s.engines.map (fun g => { g with queue := g.queue.filter (fun r => r.order != n) }) }

/-- A Band Streamer that prints an item of the cancelled order before its PAGE_CLOSE abandons the page (R14). -/
def State.cancelPage (n : OrderNo) (s : State) (e : EngineNo) : State :=
  match (s.eng e).item, (s.eng e).state with
  | some r, .opening | some r, .streaming => if r.order = n then s.abandonPage e else s
  | _, _ => s

/-- CANCEL_ORDER of an OPEN order (R13). -/
def State.cancel (s : State) (n : OrderNo) : State :=
  let s1 := (s.dropRefs n).updOrder n (fun o =>
    { o with items := o.items.map Item.withdraw,
             state := if o.hasPrinting then .cancelling else .cancelled })
  allEngines.foldl (State.cancelPage n) s1

/-- The rule of CANCEL_ORDER (R13). -/
def cancelOrderReply (s : State) (f : DownFrame) : Reply :=
  noFields s f (withOrder s f (fun n =>
    match (s.order n).state with
    | .open_ =>
      .yes (s.cancel n) (b1 (if (s.order n).hasPrinting then OrderState.cancelling else .cancelled).code
        ++ b1 ((s.order n).items.filter Item.withdrawable).length)
    | .cancelling | .cancelled => .yes s (b1 (s.order n).state.code ++ b1 0)
    | .closing | .free => .no s .orderState))

/-- CANCEL_ORDER (R13). -/
def execCancelOrder (s : State) : Host.Outcome State Fault Refusal :=
  .next (s.takeMgmt .cancelOrder cancelOrderReply)

/-! ## CLOSE_ORDER (R15, R16, R105) -/

/-- The pay states that condition 2 of R15 admits. -/
def PayState.settled : PayState → Bool
  | .none_ | .declined | .captured | .voided => true
  | .requested | .authorised | .capturePending | .voidPending | .refundPending | .unknown => false

/-- The order's bound slot is BUSY (condition 3 of R15). -/
def State.boundBusy (s : State) (n : OrderNo) : Bool :=
  match (s.order n).slot with
  | some x => (s.slot x).request.isSome
  | none => false

/-- Pieces a context has not yet written are dropped at the close of its order: a block of which a piece was written counts as delivered, the others leave the blocks counted received (R105). -/
def Ctx.closed (c : Ctx) : Ctx :=
  match c.placed, c.buffer with
  | p + 1, b :: rest =>
    { c with
      buffer := [], moved := [], placed := 0, received := c.received - rest.length,
      delivered := c.delivered + 1,
      written := c.written + pieceBytes ((c.oldestPieces b).take (p + 1)) }
  | _, _ =>
    { c with buffer := [], moved := [], placed := 0, received := c.received - c.buffer.length }

/-- The contexts of a closing order that drain after a removal (R105). -/
def State.closeCtxs (s : State) (n : OrderNo) : State :=
  { s with ctxs := s.ctxs.map (fun c => c.map (fun k => if k.order = n then k.closed else k)) }

/-- A band read left to end reads nothing of an order that is closed. Log 34. -/
def Engine.loseStale (n : OrderNo) (g : Engine) : Engine :=
  { g with stale := g.stale.map (fun st => if st.order = n then { st with lost := true } else st) }

/-- Steps 1 to 4 of R16 and the CLOSING state of step 5. -/
def State.closeRecord (s : State) (n : OrderNo) : State :=
  let map := (s.order n).map
  let s1 := match (s.order n).slot with
    | some x => s.unbind x
    | none => s
  ({ s1.closeCtxs n with
      smc := s1.smc.takeBack map (some n), engines := s1.engines.map (Engine.loseStale n) } :
    State).updOrder n (fun o =>
    { o with items := o.items.map Item.withdraw, awaiting := (cleanPages map).length, map := [],
             state := .closing })

/-- CLOSE_ORDER carried out (R16): CLOSING, or FREE at once when no page awaits scrub. -/
def State.close (s : State) (n : OrderNo) : State :=
  if cleanPages (s.order n).map = [] then (s.closeRecord n).release n else s.closeRecord n

/-- The results of CLOSE_ORDER (R16). -/
def closeResults (map : List MapEntry) : Bytes :=
  b1 (if cleanPages map = [] then OrderState.free else .closing).code
    ++ toBytes 2 (cleanPages map).length ++ toBytes 2 (badPages map).length

/-- The settlement test (R15): none when it passes. -/
def State.settlement (s : State) (n : OrderNo) : Option Status :=
  if (s.order n).hasWork ∨ !(s.order n).pay.state.settled then some .unsettled
  else if s.boundBusy n then some .busy
  else none

/-- The rule of CLOSE_ORDER up to its effect: the order to close, or the refusal (R2, R15). -/
def closeChecks (s : State) (f : DownFrame) : Except Status OrderNo :=
  match f.fields with
  | _ :: _ => .error .badRequest
  | [] => match orderOfByte f.order with
    | none => .error .noOrder
    | some n =>
      if (s.order n).state = .free then .error .noOrder
      else if !(s.order n).live then .error .orderState
      else match s.settlement n with
        | some st => .error st
        | none => .ok n

/-- The bulk request of the order that was taken before is carried out first, without upsets of its own (R45). Log 27. -/
def State.finishBulk (s : State) (n : OrderNo) : Access := s.bulkWhen (fun b => b.order == n)

/-- The take of CLOSE_ORDER (R195, R15, R16). The part state is looked at before the bulk access that comes first, also where that access halts the part (the model's choice, log 66). -/
def State.takeClose (s : State) (f : DownFrame) : Host.Outcome State Fault Refusal :=
  match gate .closeOrder s.part with
  | some st => .next (s.answer .closeOrder f st [])
  | none => match closeChecks s f with
    | .error st => .next (s.answer .closeOrder f st [])
    | .ok n => match s.finishBulk n with
      | .data s1 _ | .poisoned s1 =>
        .next ((s1.close n).answer .closeOrder f .ok (closeResults (s1.order n).map)).settle
      | .fault e => .fault e

/-- CLOSE_ORDER (R15, R16). -/
def execCloseOrder (s : State) : Host.Outcome State Fault Refusal :=
  match s.nextTake with
  | some (f, rest) =>
    if f.row = .mgmt .closeOrder then (s.afterTake rest).takeClose f else .next s
  | none => .next s

/-! ## READ_ORDER (R18) -/

/-- An item as READ_ORDER carries it. Log 14. -/
def Item.record (i : Nat) (it : Item) : Bytes :=
  b1 i ++ b1 it.state.code ++ b1 it.choice.code ++ b1 it.cls ++ toBytes 3 it.price ++ b1 it.media
    ++ b1 it.copies ++ b1 it.delivered ++ toBytes 2 it.wasted
    ++ toBytes 4 it.offset ++ toBytes 4 it.extentBytes

/-- The three amounts of a payment record. -/
def PayRec.amounts (p : PayRec) : Bytes :=
  amountBytes p.authorised ++ amountBytes p.captured ++ amountBytes p.refunded

/-- The record as READ_ORDER returns it (R18). Log 14. -/
def Order.record (n : OrderNo) (o : Order) : Bytes :=
  if o.state = .free then [orderByte (some n)] ++ b1 OrderState.free.code
  else
    [orderByte (some n)] ++ toBytes 4 o.tag.toNat ++ b1 o.state.code ++ o.permits.byte
      ++ opt1 (o.slot.map (fun x => (slotNo x).val))
      ++ toBytes 2 o.map.length ++ toBytes 2 o.awaiting
      ++ listBytes (o.items.mapIdx Item.record)
      ++ amountBytes o.due ++ amountBytes o.committed
      ++ b1 o.pay.state.code ++ o.pay.amounts ++ opt1 (o.pay.lost.map PayClass.code)
      ++ optWide (o.faultRec.map (fun r => r.code.bytes ++ toBytes 4 r.offset))

/-- The rule of READ_ORDER (R18). -/
def readOrderReply (s : State) (f : DownFrame) : Reply :=
  noFields s f (match orderOfByte f.order with
    | some n => .yes s ((s.order n).record n)
    | none => .no s .noOrder)

/-- READ_ORDER (R18). -/
def execReadOrder (s : State) : Host.Outcome State Fault Refusal :=
  .next (s.takeMgmt .readOrder readOrderReply)

/-! ## RESOLVE_PAYMENT (R167, R168) -/

/-- The target of a target byte (R203). -/
def targetOf (n : Nat) : Option ResolveTarget :=
  match n with
  | 0 => some .none_ | 1 => some .declined | 2 => some .authorised | 3 => some .captured
  | 4 => some .voided | 5 => some .refunded | _ => none

/-- The row of R167: the payment record after it, where the target is allowed and its condition holds. -/
def Order.resolve (o : Order) (t : ResolveTarget) (amount : Nat) : Option PayRec :=
  let p := { o.pay with lost := none }
  match o.pay.lost, t with
  | some .authorise, .none_ => if o.committed = 0 then some { p with state := .none_ } else none
  | some .authorise, .declined => some { p with state := .declined }
  | some .authorise, .authorised =>
    if o.committed ≤ amount then some { p with state := .authorised, authorised := amount } else none
  | some .capture, .authorised => some { p with state := .authorised }
  | some .capture, .captured =>
    if amount ≤ o.pay.authorised ∧ amount ≤ o.due then
      some { p with state := .captured, captured := amount }
    else none
  | some .void_, .authorised => some { p with state := .authorised }
  | some .void_, .voided =>
    if o.items.all (fun it => it.delivered == 0) then
      some { p with state := .voided, authorised := 0 }
    else none
  | some .refund, .captured => some { p with state := .captured }
  | some .refund, .refunded =>
    if o.pay.refunded + amount ≤ o.pay.captured then
      some { p with state := .captured, refunded := o.pay.refunded + amount }
    else none
  | _, _ => none

/-- The checks of R167 for a live order, and its effect (R168). -/
def resolveReply (s : State) (n : OrderNo) (t : ResolveTarget) (amount : Nat) : Reply :=
  if !(s.order n).live then .no s .orderState
  else if (s.order n).pay.state ≠ .unknown then .no s .payState
  else match (s.order n).resolve t amount with
    | some p => .yes (s.updOrder n (fun o => { o with pay := p })) (b1 p.state.code ++ p.amounts)
    | none => .no s .resolveInvalid

/-- The rule of RESOLVE_PAYMENT (R167). An amount out of range is refused for every target, also one whose row does not use it (the model's choice, log 64). -/
def resolvePaymentReply (s : State) (f : DownFrame) : Reply :=
  match f.fields with
  | [t, a0, a1, a2, a3, a4, a5] => match targetOf t.toNat with
    | some target =>
      if beNat [a0, a1, a2, a3, a4, a5] ≤ Config.amountLimit then
        withOrder s f (fun n => resolveReply s n target (beNat [a0, a1, a2, a3, a4, a5]))
      else .no s .badRequest
    | none => .no s .badRequest
  | _ => .no s .badRequest

/-- RESOLVE_PAYMENT (R167, R168). -/
def execResolvePayment (s : State) : Host.Outcome State Fault Refusal :=
  .next (s.takeMgmt .resolvePayment resolvePaymentReply)

/-! ## GROW_WINDOW and READ_POOL (R35 to R37) -/

/-- The pages at the head of the free pool join the map (R35). -/
def State.grow (s : State) (n : OrderNo) (k : Nat) : State :=
  { s.updOrder n (fun o => { o with
      map := o.map ++ (s.smc.freePool.take k).map (fun p => { page := p, poisoned := false }) }) with
    smc := { s.smc with freePool := s.smc.freePool.drop k } }

/-- POOL_LOW when the free count falls from at or above the threshold to below it (R37). -/
def State.poolNotice (s : State) (before : Nat) : State :=
  if s.smc.threshold ≤ before ∧ s.smc.freePool.length < s.smc.threshold then
    s.raise .poolLow none (toBytes 2 s.smc.freePool.length ++ toBytes 2 s.smc.threshold)
  else s

/-- The particular checks of GROW_WINDOW and its effect (R35). -/
def growReply (s : State) (n : OrderNo) (k : Nat) : Reply :=
  if (s.order n).state ≠ .open_ then .no s .orderState
  else if Config.windowLimit < (s.order n).map.length + k then .no s .windowLimit
  else if s.smc.freePool.length < k then .no s .poolEmpty
  else .yes ((s.grow n k).poolNotice s.smc.freePool.length)
    (toBytes 2 ((s.order n).map.length + k))

/-- The rule of GROW_WINDOW (R35). -/
def growWindowReply (s : State) (f : DownFrame) : Reply :=
  match f.fields with
  | [n0, n1] =>
    if 1 ≤ beNat [n0, n1] ∧ beNat [n0, n1] ≤ Config.windowLimit then
      withOrder s f (fun n => growReply s n (beNat [n0, n1]))
    else .no s .badRequest
  | _ => .no s .badRequest

/-- GROW_WINDOW (R35, R37). -/
def execGrowWindow (s : State) : Host.Outcome State Fault Refusal :=
  .next (s.takeMgmt .growWindow growWindowReply)

/-- The results of READ_POOL (R36). -/
def State.poolCounts (s : State) : Bytes :=
  toBytes 2 s.smc.freePool.length ++ toBytes 2 s.smc.scrubQ.length
    ++ toBytes 2 s.smc.retired.length ++ toBytes 2 s.totalPages ++ toBytes 2 s.smc.threshold

/-- READ_POOL (R36). -/
def execReadPool (s : State) : Host.Outcome State Fault Refusal :=
  .next (s.takeMgmt .readPool (fun s1 f => noFields s1 f (.yes s1 s1.poolCounts)))

end Sys2Proof.Machine
end

