-- ==== Sys2Proof/Machine/Items.lean ====
section
/-! DEFINITION. The item requests and the Print Scheduler's search (R113 to R127). -/

namespace Sys2Proof.Machine

/-! ## SUBMIT_ITEM (R113, R114) -/

/-- The fields of SUBMIT_ITEM. -/
structure SubmitFields where
  choice   : EngineChoice
  cls      : Fin 16
  copies   : Nat
  offset   : Nat
  skip     : Nat
  width    : Nat
  rows     : Nat
  bandRows : Nat
  deriving DecidableEq, Repr

/-- An engine choice's byte (R203). -/
def choiceOf (n : Nat) : Option EngineChoice :=
  match n with
  | 0 => some .either | 1 => some (.only .one) | 2 => some (.only .two) | _ => none

/-- The fields in the ranges of R113. -/
def submitFields (fields : Bytes) : Option SubmitFields :=
  match fields with
  | [e, c, k, o0, o1, o2, o3, s0, s1, w0, w1, r0, r1, b] =>
    match choiceOf e.toNat with
    | some choice =>
      if h : c.toNat < 16 then
        if 1 ≤ k.toNat ∧ k.toNat ≤ 99 ∧ 1 ≤ beNat [w0, w1] ∧ beNat [w0, w1] ≤ 4096
            ∧ 1 ≤ beNat [r0, r1] ∧ beNat [r0, r1] ≤ 8192 ∧ 1 ≤ b.toNat ∧ b.toNat ≤ 64 then
          some { choice := choice, cls := ⟨c.toNat, h⟩, copies := k.toNat,
                 offset := beNat [o0, o1, o2, o3], skip := beNat [s0, s1],
                 width := beNat [w0, w1], rows := beNat [r0, r1], bandRows := b.toNat }
        else none
      else none
    | none => none
  | _ => none

/-- The item of a submission, priced from the active price table (R113, R115). -/
def SubmitFields.item (q : SubmitFields) (p : Price) : Item :=
  { choice := q.choice, cls := q.cls.val, price := p.unit, media := p.media, copies := q.copies,
    delivered := 0, wasted := 0, offset := q.offset, skip := q.skip, width := q.width,
    rows := q.rows, bandRows := q.bandRows, state := .pending }

/-- The checks of R114 and the submission. -/
def submitReply (s : State) (n : OrderNo) (q : SubmitFields) : Reply :=
  let it := q.item (s.rules.active.prices.get q.cls)
  if (s.order n).state ≠ .open_ then .no s .orderState
  else if Config.itemLimit ≤ (s.order n).items.length then .no s .itemLimit
  else if windowSize (s.order n).map < it.offset + it.extentBytes then .no s .outOfWindow
  else .yes (s.updOrder n (fun o => { o with items := o.items ++ [it] }))
    (b1 (s.order n).items.length ++ toBytes 3 it.price ++ b1 it.media)

/-- The rule of SUBMIT_ITEM (R114). -/
def submitItemReply (s : State) (f : DownFrame) : Reply :=
  match submitFields f.fields with
  | some q => withOrder s f (fun n => submitReply s n q)
  | none => .no s .badRequest

/-- SUBMIT_ITEM (R114). -/
def execSubmitItem (s : State) : Host.Outcome State Fault Refusal :=
  .next (s.takeMgmt .submitItem submitItemReply)

/-! ## RESUME_ITEM and WITHDRAW_ITEM (R124, R125) -/

/-- The effect of RESUME_ITEM (R124). Log 17. -/
def resumeReply (s : State) (n : OrderNo) (i : Nat) : Reply :=
  if (s.order n).state ≠ .open_ then .no s .orderState
  else match (s.order n).items[i]? with
    | some it =>
      if it.state = .held then .yes (s.updItem n i (fun it => { it with state := .pending })) []
      else .no s .itemState
    | none => .no s .itemState

/-- The rule of RESUME_ITEM (R124). -/
def resumeItemReply (s : State) (f : DownFrame) : Reply :=
  match f.fields with
  | [i] => withOrder s f (fun n => resumeReply s n i.toNat)
  | _ => .no s .badRequest

/-- RESUME_ITEM (R124). -/
def execResumeItem (s : State) : Host.Outcome State Fault Refusal :=
  .next (s.takeMgmt .resumeItem resumeItemReply)

/-- A reference leaves the engine queues (R125). -/
def State.dropRef (s : State) (r : ItemRef) : State :=
  { s with engines := s.engines.map (fun g => { g with queue := g.queue.erase r }) }

/-- The effect of WITHDRAW_ITEM (R125). Log 17. -/
def withdrawReply (s : State) (n : OrderNo) (i : Nat) : Reply :=
  if !(s.order n).live then .no s .orderState
  else match (s.order n).items[i]? with
    | some it =>
      if it.withdrawable then
        .yes ((s.dropRef { order := n, item := i }).updItem n i Item.withdraw) (b1 it.state.code)
      else .no s .itemState
    | none => .no s .itemState

/-- The rule of WITHDRAW_ITEM (R125). -/
def withdrawItemReply (s : State) (f : DownFrame) : Reply :=
  match f.fields with
  | [i] => withOrder s f (fun n => withdrawReply s n i.toNat)
  | _ => .no s .badRequest

/-- WITHDRAW_ITEM (R125). -/
def execWithdrawItem (s : State) : Host.Outcome State Fault Refusal :=
  .next (s.takeMgmt .withdrawItem withdrawItemReply)

/-! ## The scheduler (R116 to R121) -/

/-- The engine choice names the engine, or is EITHER (R118). -/
def EngineChoice.names (c : EngineChoice) (e : EngineNo) : Bool :=
  match c with
  | .either => true
  | .only k => k == e

/-- An engine is eligible for a candidate (R118). -/
def State.eligible (s : State) (it : Item) (e : EngineNo) : Bool :=
  (s.eng e).media == some it.media && (s.eng e).state != .offline && (s.eng e).state != .faulted
    && (s.eng e).queue.length < Config.queueLimit && it.choice.names e

/-- The engine chosen for a candidate (R118). -/
def State.chooseEngine (s : State) (it : Item) : Option EngineNo :=
  match s.eligible it .one, s.eligible it .two with
  | true, true =>
    if (s.eng .two).queue.length < (s.eng .one).queue.length then some .two else some .one
  | true, false => some .one
  | false, true => some .two
  | false, false => none

/-- The pay states test 2 of R117 admits. -/
def PayState.prints : PayState → Bool
  | .none_ | .declined | .authorised => true
  | .requested | .capturePending | .captured | .voidPending | .voided | .refundPending
  | .unknown => false

/-- The amount test 3 of R117 compares. -/
def Order.needed (o : Order) (it : Item) : Nat := o.committed + it.price * it.remaining

/-- The outcome of the tests of R117. -/
inductive Gate where
  | pass (e : EngineNo) | short | wait
  deriving DecidableEq, Repr

/-- The tests of R117 on an order's candidate. -/
def State.test (s : State) (n : OrderNo) (it : Item) : Gate :=
  let o := s.order n
  if o.state ≠ .open_ then .wait
  else if !o.pay.state.prints then .wait
  else if o.effective < o.needed it then .short
  else match s.chooseEngine it with
    | some e => .pass e
    | none => .wait

/-- Queuing a candidate (R121). -/
def State.queueItem (s : State) (n : OrderNo) (i : Nat) (e : EngineNo) : State :=
  { (s.updEng e (fun g => { g with queue := g.queue ++ [{ order := n, item := i }] })).updItem n i
      (fun it => { it with state := .queued }) with lastServed := n }

/-- CREDIT_SHORT where the order's short-notice flag is armed (R119). -/
def State.creditShort (s : State) (n : OrderNo) (i : Nat) (it : Item) : State :=
  if (s.order n).shortArmed then
    (s.raise .creditShort (some n)
      ([orderByte (some n)] ++ b1 i ++ amountBytes ((s.order n).needed it)
        ++ amountBytes (s.order n).effective ++ b1 (s.order n).pay.state.code)).updOrder n
      (fun o => { o with shortArmed := false })
  else s

/-- One search over the orders given: the first candidate that passes is queued (R120). -/
def State.searchOrders (s : State) : List OrderNo → State
  | [] => s
  | n :: ns =>
    match (s.order n).candidate with
    | none => s.searchOrders ns
    | some i =>
      match (s.order n).items[i]? with
      | none => s.searchOrders ns
      | some it =>
        match s.test n it with
        | .pass e => s.queueItem n i e
        | .short => (s.creditShort n i it).searchOrders ns
        | .wait => s.searchOrders ns

/-- The orders from the one after the last order served on (R120). -/
def ordersAfter (last : OrderNo) : List OrderNo :=
  (List.range 16).map (fun i => Fin.ofNat 16 (last.val + 1 + i))

/-- SCHEDULER_SEARCH (R120): one search, made only while the part is RUNNING (R127). -/
def execSchedulerSearch (s : State) : Host.Outcome State Fault Refusal :=
  if s.part = .running ∧ !s.resetLow then .next (s.searchOrders (ordersAfter s.lastServed))
  else .next s

end Sys2Proof.Machine
end

