-- ==== Sys2Proof/Machine/Rules.lean ====
section
/-! DEFINITION. Editing, reading and committing the rule image (R58 to R65). -/

namespace Sys2Proof.Machine

/-! ## The LOAD requests and DISCARD_PENDING (R58 to R60) -/

/-- A change of the pending image. -/
def State.editPending (s : State) (f : Image → Image) : State :=
  { s with rules := { s.rules with pendingImg := f s.rules.pendingImg } }

/-- The answer of an edit request whose payload is sound (R64); the payload has been looked at before the barrier (log 56). -/
def editReply (s : State) (f : Image → Image) (results : Bytes) : Reply :=
  if s.rules.barrier.isSome then .no s .barrierPending else .yes (s.editPending f) results

/-- LOAD_RULES on a rule list: entries written from `first` on, then the new length (R58). -/
def loadRules (rules : List RuleEntry) (first newLen : Nat) (es : List RuleEntry) : List RuleEntry :=
  (rules.take first ++ es ++ rules.drop (first + es.length)).take newLen

/-- The structure of LOAD_RULES for a pending list of `len` entries, in the sequence of R58. The request's own count is the count of its entries (the model's reading, log 71). -/
def loadRulesFields (len : Nat) (fields : Bytes) : Option (Nat × Nat × List RuleEntry) :=
  match fields with
  | i :: c :: l :: rest =>
    match ruleEntriesOf c.toNat rest with
    | some es =>
      if c.toNat ≤ 64 ∧ i.toNat + c.toNat ≤ 128 ∧ i.toNat ≤ len
          ∧ l.toNat ≤ max len (i.toNat + c.toNat) then
        some (i.toNat, l.toNat, es)
      else none
    | none => none
  | _ => none

/-- The rule of LOAD_RULES (R58). -/
def loadRulesReply (s : State) (f : DownFrame) : Reply :=
  match loadRulesFields s.rules.pendingImg.rules.length f.fields with
  | some (first, newLen, es) =>
    editReply s (fun im => { im with rules := loadRules im.rules first newLen es })
      (b1 (loadRules s.rules.pendingImg.rules first newLen es).length)
  | none => .no s .badRequest

/-- LOAD_RULES (R58). -/
def execLoadRules (s : State) : Host.Outcome State Fault Refusal :=
  .next (s.takeMgmt .loadRules loadRulesReply)

/-- Consecutive classes of a price table replaced, from `first` on (R59). -/
def setPrices (v : Vector Price 16) (first : Nat) (ps : List Price) : Vector Price 16 :=
  Vector.ofFn (fun i => if first ≤ i.val then (ps[i.val - first]?).getD (v.get i) else v.get i)

/-- The rule of LOAD_PRICES (R59). Its count is the count of its pairs (the model's reading, log 71). -/
def loadPricesReply (s : State) (f : DownFrame) : Reply :=
  match f.fields with
  | i :: c :: rest => match pricesOf c.toNat rest with
    | some ps =>
      if i.toNat ≤ 15 ∧ 1 ≤ c.toNat ∧ i.toNat + c.toNat ≤ 16 then
        editReply s (fun im => { im with prices := setPrices im.prices i.toNat ps }) []
      else .no s .badRequest
    | none => .no s .badRequest
  | _ => .no s .badRequest

/-- LOAD_PRICES (R59). -/
def execLoadPrices (s : State) : Host.Outcome State Fault Refusal :=
  .next (s.takeMgmt .loadPrices loadPricesReply)

/-- The rule of LOAD_SLOT_PROFILE (R59). -/
def loadSlotProfileReply (s : State) (f : DownFrame) : Reply :=
  match f.fields with
  | [x, d, r0, r1, b0, b1, p] => match slotOf x.toNat with
    | some slot =>
      let profile : SlotProfile :=
        { divider := d.toNat, response := beNat [r0, r1], block := beNat [b0, b1], depth := p.toNat }
      editReply s (fun im => { im with slots := im.slots.set (slotNo slot).val profile }) []
    | none => .no s .badRequest
  | _ => .no s .badRequest

/-- LOAD_SLOT_PROFILE (R59). -/
def execLoadSlotProfile (s : State) : Host.Outcome State Fault Refusal :=
  .next (s.takeMgmt .loadSlotProfile loadSlotProfileReply)

/-- The rule of LOAD_ENGINE_PROFILE (R59). -/
def loadEngineProfileReply (s : State) (f : DownFrame) : Reply :=
  match f.fields with
  | [e, r, p0, p1] => match engineOf e.toNat with
    | some engine =>
      let profile : EngineProfile := { response := r.toNat, page := beNat [p0, p1] }
      editReply s (fun im => { im with engines := im.engines.set (engineIdx engine).val profile }) []
    | none => .no s .badRequest
  | _ => .no s .badRequest

/-- LOAD_ENGINE_PROFILE (R59). -/
def execLoadEngineProfile (s : State) : Host.Outcome State Fault Refusal :=
  .next (s.takeMgmt .loadEngineProfile loadEngineProfileReply)

/-- The payment profile of LOAD_PAYMENT_PROFILE's fields, in the field order of R59. -/
def payProfileOf (fields : Bytes) : Option PayProfile :=
  match fields with
  | [u0, u1, u2, k, lo, lw, la, sb, eb, tr, co, cw, t0, t1] =>
    some { baud := beNat [u0, u1, u2], framing := k.toNat, lenOffset := lo.toNat,
           lenWidth := lw.toNat, lenAdjust := signedByte la, startByte := sb, endByte := eb,
           trailing := tr.toNat, codeOffset := co.toNat, codeWidth := cw.toNat,
           timeout := beNat [t0, t1] }
  | _ => none

/-- The rule of LOAD_PAYMENT_PROFILE (R59). -/
def loadPaymentProfileReply (s : State) (f : DownFrame) : Reply :=
  match payProfileOf f.fields with
  | some p => editReply s (fun im => { im with pay := p }) []
  | none => .no s .badRequest

/-- LOAD_PAYMENT_PROFILE (R59). -/
def execLoadPaymentProfile (s : State) : Host.Outcome State Fault Refusal :=
  .next (s.takeMgmt .loadPaymentProfile loadPaymentProfileReply)

/-- The rule of DISCARD_PENDING (R60). -/
def discardPendingReply (s : State) (f : DownFrame) : Reply :=
  noFields s f (editReply s (fun _ => s.rules.active.withParity) [])

/-- DISCARD_PENDING (R60). -/
def execDiscardPending (s : State) : Host.Outcome State Fault Refusal :=
  .next (s.takeMgmt .discardPending discardPendingReply)

/-! ## READ_IMAGE (R61) -/

/-- The parts of an image in the order of R49. -/
inductive ImagePart where
  | rules (first count : Nat) | prices | slot (x : Slot) | engine (e : EngineNo) | pay
  deriving DecidableEq, Repr

/-- The fields of READ_IMAGE. -/
def readImageFields (fields : Bytes) : Option (ImageName × ImagePart) :=
  match fields with
  | i :: part =>
    let p : Option ImagePart := match part with
      | [k, first, count] =>
        if k.toNat = 0 ∧ 1 ≤ count.toNat ∧ count.toNat ≤ 64 then
          some (.rules first.toNat count.toNat) else none
      | [k] => if k.toNat = 1 then some .prices else if k.toNat = 4 then some .pay else none
      | [k, x] =>
        if k.toNat = 2 then (slotOf x.toNat).map ImagePart.slot
        else if k.toNat = 3 then (engineOf x.toNat).map ImagePart.engine
        else none
      | _ => none
    match i.toNat with
    | 0 => p.map (fun q => (.active, q))
    | 1 => p.map (fun q => (.pending, q))
    | _ => none
  | [] => none

/-- An entry as READ_IMAGE carries it, with its parity byte in the active image (R206). -/
def RuleEntry.readBytes (im : ImageName) (e : RuleEntry) : Bytes :=
  match im with
  | .active => e.bytes ++ b1 (if e.good then 0 else 1)
  | .pending => e.bytes

/-- The contents of a part (R61). -/
def Image.partBytes (im : Image) (name : ImageName) : ImagePart → Bytes
  | .rules first count => listBytes (((im.rules.drop first).take count).map (RuleEntry.readBytes name))
  | .prices => listBytes (im.prices.toList.map Price.bytes)
  | .slot x => (im.slots.get (slotNo x)).bytes
  | .engine e => (im.engines.get (engineIdx e)).bytes
  | .pay => im.pay.bytes

/-- The image state of R61. The ports not yet switched are a list of entries: a count, then a port code each (the model's choice, log 63); the barrier state is 0 for NONE and 1 for IN_PROGRESS (the model's choice, log 70). -/
def RuleUnit.stateBytes (r : RuleUnit) : Bytes :=
  b1 r.pendingImg.rules.length ++ toBytes 2 r.gen ++ flagByte r.valid
    ++ (match r.barrier with
        | some b => b1 1 ++ listBytes ((allPorts.filter (fun p => !b.switched.contains p)).map
            (fun p => b1 p.code))
        | none => b1 0)

/-- The rule of READ_IMAGE (R61). -/
def readImageReply (s : State) (f : DownFrame) : Reply :=
  match readImageFields f.fields with
  | some (.active, p) => .yes s (s.rules.active.partBytes .active p ++ s.rules.stateBytes)
  | some (.pending, p) => .yes s (s.rules.pendingImg.partBytes .pending p ++ s.rules.stateBytes)
  | none => .no s .badRequest

/-- READ_IMAGE (R61), after the flips that stored bits have taken by now (log 6). -/
def execReadImage (flips : List ParityFlip) (s : State) : Host.Outcome State Fault Refusal :=
  .next (s.takeMgmt .readImage (fun s1 f => readImageReply (s1.flipBits flips) f))

/-! ## Validation (R63) -/

/-- An action defined for the direction (fault 2 of R63). -/
def RuleEntry.actionOk (e : RuleEntry) : Bool :=
  if e.direction = 0 then e.action ≤ 3 else e.action == 0 || e.action == 4

/-- The payment class of an entry is in order (faults 3 to 5 of R63). -/
def RuleEntry.classOk (e : RuleEntry) : Bool :=
  e.payClass == 0
    || (e.portClass == 2
        && (if e.direction = 0 then 1 ≤ e.payClass && e.payClass ≤ 4 && e.action != 3
            else 5 ≤ e.payClass && e.payClass ≤ 10))

/-- The amount field of an entry is in order (faults 1, 6 and 7 of R63). That fault 7, an amount field that is missing, is a fault of the amount field and not of the class is the model's choice (log 73). -/
def RuleEntry.amountOk (e : RuleEntry) : Bool :=
  if e.amtWidth = 0 then
    !(e.direction == 0 && (e.payClass == 1 || e.payClass == 2 || e.payClass == 4))
  else e.payClass != 0 && e.amtWidth ≤ 6 && e.amtFormat ≤ 2

/-- The fields of an entry in the order of R51: direction, port class, request kind, code value, code mask, action, payment class, amount field. Log 60. -/
def RuleEntry.checks (e : RuleEntry) : List Bool :=
  [e.direction ≤ 1, e.portClass ≤ 2, e.portClass != 0 || e.requestKind ≤ 4, true, true, e.actionOk,
   e.classOk, e.amountOk]

/-- The fields of a price class. -/
def Price.checks (p : Price) : List Bool := [p.unit ≤ Config.priceLimit, p.media ≤ 15]

/-- The fields of a slot profile (R59). -/
def SlotProfile.checks (p : SlotProfile) : List Bool :=
  [2 ≤ p.divider && p.divider ≤ 250, 1 ≤ p.response && p.response ≤ 1000,
   1 ≤ p.block && p.block ≤ 2000, p.depth ≤ 16]

/-- The fields of an engine profile (R59). -/
def EngineProfile.checks (p : EngineProfile) : List Bool :=
  [1 ≤ p.response && p.response ≤ 60, 10 ≤ p.page && p.page ≤ 600]

/-- The fields of the payment profile in the order of R59, fault 8 of R63 at the end byte. Log 60. -/
def PayProfile.checks (p : PayProfile) : List Bool :=
  [[9600, 19200, 38400, 57600, 115200].contains p.baud, p.framing ≤ 1, p.lenOffset ≤ 15,
   1 ≤ p.lenWidth && p.lenWidth ≤ 2, -16 ≤ p.lenAdjust && p.lenAdjust ≤ 16, true,
   p.endByte != p.startByte, p.trailing ≤ 4, p.codeOffset ≤ 15,
   1 ≤ p.codeWidth && p.codeWidth ≤ 2, 5 ≤ p.timeout && p.timeout ≤ 600]

/-- The place of a fault: part, entry index, class, slot or engine, and field (R63). Log 14. -/
structure FaultPlace where
  part  : Nat
  index : Option Nat
  field : Nat
  deriving DecidableEq, Repr

/-- The first failing field of the records of one part, the i-th record named by `name i`. -/
def firstFault (part : Nat) (name : Nat → Option Nat) : Nat → List (List Bool) → Option FaultPlace
  | _, [] => none
  | i, cs :: rest =>
    match cs.findIdx? (fun ok => !ok) with
    | some k => some { part := part, index := name i, field := k }
    | none => firstFault part name (i + 1) rest

/-- The first fault of an image in the sequence of R63, none when it is valid. -/
def Image.fault (im : Image) : Option FaultPlace :=
  (firstFault 0 some 0 (im.rules.map RuleEntry.checks)).or
    ((firstFault 1 some 0 (im.prices.toList.map Price.checks)).or
      ((firstFault 2 some 0 (im.slots.toList.map SlotProfile.checks)).or
        ((firstFault 3 (fun i => some (i + 1)) 0 (im.engines.toList.map EngineProfile.checks)).or
          (firstFault 4 (fun _ => none) 0 [im.pay.checks]))))

/-- The location as the RESPONSE carries it. Log 14. -/
def FaultPlace.bytes (p : FaultPlace) : Bytes := b1 p.part ++ opt1 p.index ++ b1 p.field

/-! ## COMMIT_TABLES (R62 to R65) -/

/-- The barrier begins: the pending image is frozen with parity, the tag is kept, every port without a message in flight switches (R64, R67). -/
def State.beginBarrier (s : State) (f : DownFrame) : State :=
  ({ s with rules := { s.rules with
      pendingImg := s.rules.pendingImg.withParity,
      barrier := some { switched := [], tag := f.tag, order := f.order, newValid := true } } } :
    State).settle

/-- The take of COMMIT_TABLES: a valid image's RESPONSE is held until the barrier completes (R62, R63, R195); its payload is looked at before the barrier (log 56). -/
def State.takeCommit (s : State) (f : DownFrame) : State :=
  match gate .commitTables s.part with
  | some st => s.answer .commitTables f st []
  | none =>
    if f.fields ≠ [] then s.answer .commitTables f .badRequest []
    else if s.rules.barrier.isSome then s.answer .commitTables f .barrierPending []
    else match s.rules.pendingImg.fault with
      | some p => s.answer .commitTables f .tableInvalid p.bytes
      | none => s.beginBarrier f

/-- COMMIT_TABLES (R62). -/
def execCommitTables (s : State) : Host.Outcome State Fault Refusal :=
  .next (s.takeAs (.mgmt .commitTables) (fun f s1 => s1.takeCommit f))

end Sys2Proof.Machine
end

