-- ==== Sys2Proof/Machine/Cards.lean ====
section
/-! DEFINITION. Card detection, the admission of card requests, the card bus, and staged reads (R73 to R112). -/

namespace Sys2Proof.Machine

/-! ## Answers and the end of requests (R72, R87 to R89) -/

/-- The answer of a request is classified once, under the request's generation; the flag says that its frames go on (R88). Log 6. -/
def State.answerAction (s : State) (flips : List ParityFlip) (known : Option Bool) (k : CardKind)
    (gen : Nat) : State × Bool :=
  match known with
  | some passes => (s, passes)
  | none =>
    let r := (s.flipBits flips).classify gen (cardMsg true k)
    (r.1, r.2.passes)

/-- A frame of a slot's answer: the request's tag, and the slot's bound order as it is formed (R187). -/
def State.cardFrame (s : State) (x : Slot) (k : UpKind) (tag : Word32) (payload : Bytes) : UpFrame :=
  { chan := slotChannel x, kind := k, order := orderByte (s.slot x).bound, fip := s.fip, tag := tag,
    payload := payload }

/-- The blocks gathered since the last full DATA frame go in one shorter frame (R89). -/
def State.offerRest (s : State) (x : Slot) (q : CardReq) : State :=
  if q.gathered.isEmpty then s
  else (s.offer (.cardData x) (s.cardFrame x .data q.tag q.gathered.flatten)).1

/-- A request ends with its completion: the bus is released, the answer is classified, its frames are queued, wait for room or are discarded, and the slot leaves BUSY (R72, R88). Log 21. -/
def State.finishCard (s : State) (x : Slot) (st : CompletionStatus) (how : EndHow) (results : Bytes)
    (flips : List ParityFlip) : State :=
  match (s.slot x).request with
  | none => s
  | some q =>
    let s1 := (s.updSlot x (fun r => { r with
      request := some { q with finish := some how } })).releaseBus x
    let a := s1.answerAction flips q.action q.kind q.gen
    if a.1.part = .halted ∨ !a.2 then (a.1.endRequest x how).settle
    else
      let s2 := a.1.offerRest x q
      let d := s2.offer (.cardDone x)
        (s2.cardFrame x .transit q.tag (completionPayload q.kind st results))
      if d.2 then (d.1.endRequest x how).settle else d.1

/-- The results of a completion that reports how far a request came (R209): none for IDENTIFY and STATUS, a response length of NONE and no response for RAW (the model's choice, log 74), the blocks done otherwise. -/
def CardReq.counts (q : CardReq) : Bytes :=
  match q.kind with
  | .identify | .status => []
  | .raw => b1 0
  | .readLink | .readStaged | .write => toBytes 2 q.done

/-- A prefetch grant ends and the prefetch with it; the blocks in its buffer stay (R110). -/
def State.endPrefetch (s : State) (x : Slot) : State :=
  (s.updSlot x (fun r => { r with prefetch := none })).setGrant none

/-- A prefetch ends by a protocol fault or a timeout: its buffer is discarded and the slot enters ERROR, unless a request holds the slot's base state or the part is HALTED (R71, R92, R110). Log 20. -/
def State.prefetchError (s : State) (x : Slot) : State :=
  let s1 := s.endPrefetch x
  if (s1.slot x).request.isSome ∨ s1.part = .halted then s1.discardPrefetch x else s1.enterError x

/-- The operation a grant's errors carry (R174). -/
def State.grantOp (s : State) (g : Grant) : ErrOp :=
  if g.prefetch then .prefetch
  else match (s.slot g.slot).request with
    | some q => .cardOp q.kind
    | none => .prefetch

/-- A grant that was to stop ends at its boundary, without a completion (R92, R94, R110, R112); its stop command is no stage of its own (log 67). -/
def State.stopGrant (s : State) (g : Grant) : State :=
  if g.prefetch then s.endPrefetch g.slot else (s.stopNow g.slot).settle

/-- A transaction of the grant fails: the error is reported, and the prefetch, the staged read's card part or the request ends (R85 to R87, R101, R110); the card's stop command is no stage of its own (log 67). -/
def State.failCard (s : State) (g : Grant) (c : Cause) (block : Option Nat) (st : CompletionStatus)
    (cause : EndCause) (toError : Bool) (flips : List ParityFlip) : State :=
  let s1 := s.reportCard g.slot (s.grantOp g) c block
  if g.prefetch then
    if toError then s1.prefetchError g.slot else s1.endPrefetch g.slot
  else if g.stop.isSome then s1.stopGrant g
  else match s1.ctx g.slot, (s1.slot g.slot).request with
    | some k, _ =>
      (s1.setCtx g.slot (some { k with cause := some cause, toError := toError })).setGrant none
    | none, some q =>
      s1.finishCard g.slot st (if toError then .toError else .kept) q.counts flips
    | none, none => s1

/-- A protocol fault (R86). -/
def State.protocolFault (s : State) (g : Grant) (flips : List ParityFlip) : State :=
  s.failCard g .cardProtocol none .cardDataError .cardDataError true flips

/-- A response or block timeout (R85). -/
def State.cardTimedOut (s : State) (g : Grant) (block : Option Nat) (flips : List ParityFlip) : State :=
  s.failCard g .cardTimeout block .cardTimeout .cardTimeout true flips

/-- A block's check fails a second time (R86). -/
def State.blockLost (s : State) (g : Grant) (flips : List ParityFlip) : State :=
  s.failCard g .cardDataError (some g.next) .cardDataError .cardDataError false flips

/-- The request of a grant ends DONE, or without a completion when it was to stop (R92). -/
def State.doneCard (s : State) (g : Grant) (how : EndHow) (results : Bytes)
    (flips : List ParityFlip) : State :=
  if g.stop.isSome then s.stopGrant g else s.finishCard g.slot .done how results flips

/-! ## Card detection (R73, R74) -/

/-- CARD_DETECT_CHANGE (R73, R74): the debounce of an insertion or a removal starts or is abandoned. -/
def execCardDetectChange (slot : Slot) (present : Bool) (s : State) : Host.Outcome State Fault Refusal :=
  if (s.slot slot).pin = present then .next s
  else
    .next (s.updSlot slot (fun r => { r with
      pin := present,
      debounce := if s.resetLow then .idle
        else if r.base.isNone = present then .running s.now else .idle }))

/-- CARD_INSERTION (R73): the debounce has ended and the insertion is taken, with the lock switch as it stands at this moment; while the slot's port still carries the old card's read it waits, and the end of that read takes it (R105, `takeInsertion`). Log 78. -/
def execCardInsertion (slot : Slot) (locked : Bool) (s : State) : Host.Outcome State Fault Refusal :=
  match (s.slot slot).base, (s.slot slot).pin, (s.slot slot).debounce with
  | none, true, .running _ =>
    if s.portBusy (.slotPort slot) then .next (s.updSlot slot (fun r => { r with debounce := .ended }))
    else .next (s.insertCard slot locked)
  | _, _, _ => .next s

/-- The end cause once the card has gone: MEDIA_REMOVED; a read that a halt stopped, or whose completion has been formed, keeps its own (R102, R105). -/
def Ctx.removedCause (c : Ctx) : Option EndCause :=
  if c.waits ∨ c.cause = some .stopped then c.cause else some .mediaRemoved

/-- Step 1 of R74 for a staged read: its card part ends, and its context drains on (R105). -/
def State.removeStaged (s : State) (x : Slot) (c : Ctx) : State :=
  ((s.setCtx x (some { c with cause := c.removedCause, toError := false })).updSlot x
      (fun r => { r with request := none })).releaseBus x

/-- A grant of the slot's request that was to stop without a completion. -/
def State.stopping (s : State) (x : Slot) : Bool :=
  match s.bus.grant with
  | some g => g.slot == x && !g.prefetch && g.stop.isSome
  | none => false

/-- Step 1 of R74: the admitted request ends MEDIA_REMOVED; one that has already ended keeps its completion (log 25); one that was to stop ends without one. -/
def State.removeRequest (s : State) (x : Slot) (flips : List ParityFlip) : State :=
  match s.ctx x, (s.slot x).request with
  | some c, _ =>
    if s.stopping x then (s.stopNow x).updSlot x (fun r => { r with request := none })
    else s.removeStaged x c
  | none, some q =>
    if q.finish.isSome then s
    else if s.stopping x ∨ s.part = .halted then s.stopNow x
    else s.finishCard x .mediaRemoved .kept q.counts flips
  | none, none => s

/-- Steps 2 to 5 of R74. -/
def State.emptySlot (s : State) (x : Slot) : State :=
  ((((s.discardPrefetch x).releaseBus x).unbind x).updSlot x (fun r => { r with
    base := none, capacity := none, addressing := none, lock := none, debounce := .idle })).raiseSlotEvent
    x .empty (s.slot x).bound none

/-- A request that ended at the removal keeps no other end than leaving BUSY: the slot is EMPTY (R72, R74). -/
def State.keepEmpty (s : State) (x : Slot) : State :=
  s.updSlot x (fun r => { r with request := r.request.map (fun q =>
    { q with finish := q.finish.map (fun _ => EndHow.kept) }) })

/-- CARD_REMOVAL (R74). -/
def execCardRemoval (slot : Slot) (flips : List ParityFlip) (s : State) : Host.Outcome State Fault Refusal :=
  match (s.slot slot).base, (s.slot slot).pin, (s.slot slot).debounce with
  | some _, false, .running _ =>
    .next ((((s.removeRequest slot flips).keepEmpty slot).emptySlot slot).settle)
  | _, _, _ => .next s

/-! ## Admission (R76, R77, R97) -/

/-- The next take is a frame of this card request kind, on any slot (R76). -/
def State.takeCard (s : State) (k : CardKind) (act : Slot → DownFrame → State → State) : State :=
  match s.nextTake with
  | some (f, rest) =>
    match f.row with
    | .card x k' => if k' = k then act x f (s.afterTake rest) else s
    | .badHeader | .misrouted | .unknown | .mgmt _ | .bulkRead | .bulkWrite | .writeData _
    | .engineDown _ | .payDown => s
  | none => s

/-- The base states that admit a kind (the request table, check 9 of R76). -/
def CardKind.admittedIn : CardKind → Base → Bool
  | .identify, _ | .status, _ => true
  | .readLink, .ready | .readStaged, .ready | .write, .ready => true
  | .raw, .present | .raw, .ready => true
  | .readLink, .present | .readLink, .error | .readStaged, .present | .readStaged, .error
  | .write, .present | .write, .error | .raw, .error => false

/-- Kinds that need a bound order (check 6 of R76). -/
def CardKind.needsOrder : CardKind → Bool
  | .identify | .status => false
  | .readLink | .readStaged | .write | .raw => true

/-- Kinds that change a card: they need CARD_WRITE and the lock switch off (checks 7 and 8 of R76, R78). -/
def CardKind.writes : CardKind → Bool
  | .write | .raw => true
  | .identify | .readLink | .readStaged | .status => false

/-- Kinds whose blocks must lie on the card (check 11 of R76). -/
def CardKind.addresses : CardKind → Bool
  | .readLink | .readStaged | .write => true
  | .identify | .status | .raw => false

/-- The slot's bound order holds CARD_WRITE; an unbound slot holds no permit (R3, R76). -/
def State.holdsCardWrite (s : State) (x : Slot) : Bool :=
  match (s.slot x).bound with
  | some n => (s.order n).permits.cardWrite
  | none => false

/-- Check 10 of R76 for a staged READ: a refusal and what follows it in the REFUSAL frame (R97, R204). -/
def State.stagedCheck (s : State) (x : Slot) (q : CardFields) : Option (Status × Bytes) :=
  match (s.slot x).bound with
  | none => some (.notBound, [])
  | some n =>
    if (s.order n).state ≠ .open_ then some (.orderState, [])
    else match chainCheck (windowSize (s.order n).map) q.chain with
      | some i => some (.chainInvalid, opt1 i)
      | none => none

/-- Checks 4 to 11 of R76, after classification with the action given. -/
def State.slotChecks (s : State) (x : Slot) (k : CardKind) (a : Action) (locked : Bool)
    (q : CardFields) : Option (Status × Bytes) :=
  match (s.slot x).base with
  | none => some (.slotState, [])
  | some b =>
    if (s.slot x).request.isSome then some (.slotBusy, [])
    else if k.needsOrder ∧ (s.slot x).bound.isNone then some (.notBound, [])
    else if (k.writes ∨ a = .passPermit) ∧ !s.holdsCardWrite x then some (.permitMissing, [])
    else if k.writes ∧ locked then some (.cardLocked, [])
    else if !k.admittedIn b then some (.slotState, [])
    else match (if k = .readStaged then s.stagedCheck x q else none) with
      | some r => some r
      | none =>
        if k.addresses ∧ ((s.slot x).capacity.getD 0) < q.start + q.count then some (.outOfMedia, [])
        else none

/-- The prefetch of the slot holds, or is reading, the blocks a staged READ starts with (R77, R111). Log 24. -/
def SlotRec.prefetchMatches (r : SlotRec) (start : Nat) : Bool :=
  match r.buf, r.prefetch with
  | some b, _ => b.start == start
  | none, some p => p.running && p.start == start
  | none, none => false

/-- The prefetch at the admission of a request: a matching staged READ keeps the buffer and ends a pending prefetch, any other request discards (R77, R110, R112). -/
def State.admitPrefetch (s : State) (x : Slot) (k : CardKind) (start : Nat) : State :=
  if k = .readStaged ∧ (s.slot x).prefetchMatches start then
    s.updSlot x (fun r => { r with prefetch := r.prefetch.filter (fun p => p.running) })
  else s.discardPrefetch x

/-- The context of an admitted staged READ (R95). -/
def newCtx (n : OrderNo) (tag : Word32) (gen : Nat) (q : CardFields) : Ctx :=
  { order := n, tag := tag, gen := gen, start := q.start, count := q.count, chain := q.chain,
    position := 0, buffer := [], placed := 0, moved := [], received := 0, delivered := 0,
    discarded := 0, written := 0, cause := none, toError := false, action := none, waits := false }

/-- The request record of an admission (R77). -/
def newRequest (k : CardKind) (tag : Word32) (gen : Nat) (q : CardFields) : CardReq :=
  { kind := k, tag := tag, gen := gen, start := q.start, count := q.count,
    phase := if k = .write then .collecting else .waiting,
    rawIndex := q.rawIndex, rawArg := q.rawArg, rawLen := q.rawLen, done := 0, gathered := [],
    action := none, finish := none }

/-- The admission of a card request (R77, R90, R95). -/
def State.letIn (s : State) (x : Slot) (k : CardKind) (tag : Word32) (locked : Bool) (q : CardFields) :
    State :=
  let gen := s.portGen (.slotPort x)
  let s1 := (s.admitPrefetch x k q.start).updSlot x (fun r => { r with
    request := some (newRequest k tag gen q),
    lock := if k.writes then some locked else r.lock,
    staging := if k = .write then some [] else none })
  match k with
  | .write => s1
  | .readStaged =>
    match (s.slot x).bound with
    | some n => (s1.setCtx x (some (newCtx n tag gen q))).becomeWaiting x
    | none => s1.becomeWaiting x
  | .identify | .readLink | .status | .raw => s1.becomeWaiting x

/-- The slot port's handling of a card request: the checks of R76, then its admission (R77). While a WRITE collects, every request is refused SLOT_BUSY (R90, log 16). -/
def State.cardRequest (s : State) (x : Slot) (f : DownFrame) (k : CardKind) (locked : Bool)
    (flips : List ParityFlip) : State :=
  match s.part.refusal with
  | some st => s.refuse f st []
  | none =>
    if s.collecting x then s.refuse f .slotBusy []
    else match cardFields k f.payload.tail with
      | none => s.refuse f .badRequest []
      | some q =>
        let c := (s.flipBits flips).classify (s.portGen (.slotPort x)) (cardMsg false k)
        match c.2 with
        | .invalid => c.1.refuse f .rulesInvalid []
        | .found a _ _ _ =>
          if a = .refuse then c.1.refuse f .refusedByRule []
          else match c.1.slotChecks x k a locked q with
            | some (st, more) => c.1.refuse f st more
            | none => c.1.letIn x k f.tag locked q

/-- CARD_IDENTIFY (R76, R77, R79). -/
def execCardIdentify (flips : List ParityFlip) (s : State) : Host.Outcome State Fault Refusal :=
  .next (s.takeCard .identify (fun x f s1 => (s1.cardRequest x f .identify false flips).settle))

/-- CARD_STATUS (R76, R77, R81). -/
def execCardStatus (flips : List ParityFlip) (s : State) : Host.Outcome State Fault Refusal :=
  .next (s.takeCard .status (fun x f s1 => (s1.cardRequest x f .status false flips).settle))

/-- CARD_READ_TO_LINK (R76, R77, R89). -/
def execCardReadToLink (flips : List ParityFlip) (s : State) : Host.Outcome State Fault Refusal :=
  .next (s.takeCard .readLink (fun x f s1 => (s1.cardRequest x f .readLink false flips).settle))

/-- CARD_READ_STAGED (R76, R77, R95, R97). -/
def execCardReadStaged (flips : List ParityFlip) (s : State) : Host.Outcome State Fault Refusal :=
  .next (s.takeCard .readStaged (fun x f s1 => (s1.cardRequest x f .readStaged false flips).settle))

/-- CARD_WRITE_REQUEST (R76 to R78, R90). Log 7. -/
def execCardWriteRequest (locked : Bool) (flips : List ParityFlip) (s : State) :
    Host.Outcome State Fault Refusal :=
  .next (s.takeCard .write (fun x f s1 => (s1.cardRequest x f .write locked flips).settle))

/-- CARD_RAW (R76 to R78, R82). Log 7. -/
def execCardRaw (locked : Bool) (flips : List ParityFlip) (s : State) :
    Host.Outcome State Fault Refusal :=
  .next (s.takeCard .raw (fun x f s1 => (s1.cardRequest x f .raw locked flips).settle))

/-! ## The data of a WRITE (R90) -/

/-- A block is kept in the write staging; the last one makes the request WAITING (R90). -/
def State.stageBlock (s : State) (x : Slot) (q : CardReq) (block : Bytes) : State :=
  let blocks := ((s.slot x).staging.getD []) ++ [block]
  let s1 := s.updSlot x (fun r => { r with staging := some blocks })
  if blocks.length = q.count then s1.becomeWaiting x else s1

/-- A downstream DATA frame on a slot channel (R90): kept, refused, or discarded where no WRITE collects, one that has ended included. -/
def State.takeWriteData (s : State) (x : Slot) (f : DownFrame) : State :=
  match (s.slot x).request with
  | some q =>
    if q.phase ≠ .collecting ∨ q.finish.isSome then s
    else if f.tag ≠ q.tag then s.refuse f .slotBusy []
    else if f.payload.length = Config.blockBytes then s.stageBlock x q f.payload
    else s.refuse f .badRequest []
  | none => s

/-- WRITE_DATA_FRAME (R90). -/
def execWriteDataFrame (s : State) : Host.Outcome State Fault Refusal :=
  match s.nextTake with
  | some (f, rest) =>
    match f.row with
    | .writeData x => .next ((s.afterTake rest).takeWriteData x f)
    | .badHeader | .misrouted | .unknown | .mgmt _ | .bulkRead | .bulkWrite | .card _ _
    | .engineDown _ | .payDown => .next s
  | none => .next s

/-! ## The bus (R79 to R86, R89, R91) -/

/-- BUS_GRANT (R83): the arbiter grants the free bus. -/
def execBusGrant (s : State) : Host.Outcome State Fault Refusal := .next s.arbitrate

/-- The response length of a RAW that is being sent is NONE (R82). -/
def State.rawSilent (s : State) (x : Slot) (c : CardCmd) : Bool :=
  match c, (s.slot x).request with
  | .raw _ _, some q => q.rawLen == 0
  | _, _ => false

/-- CARD_COMMAND_SENT (R82, R85): the response timer starts; a RAW without a response ends DONE. -/
def execCardCommandSent (flips : List ParityFlip) (s : State) : Host.Outcome State Fault Refusal :=
  match s.bus.grant with
  | some g =>
    match g.stage with
    | .sending c =>
      if s.rawSilent g.slot c then .next (s.doneCard g .kept (b1 0) flips)
      else .next (s.setGrant (some { g with
        stage := .awaiting c, timer := some s.now,
        readySince := if c = .idReady then some (g.readySince.getD s.now) else g.readySince }))
    | .awaiting _ | .reading | .heldUp | .heldBuf | .moving | .writing | .busyHold => .next s
  | none => .next s

/-- The identification sequence sends its next command, unless it was to stop (R79, R92). -/
def State.nextCommand (s : State) (g : Grant) (c : CardCmd) : State :=
  if g.stop.isSome then s.stopGrant g
  else s.setGrant (some { g with stage := .sending c, timer := none })

/-- The identity of a valid IDENTIFY answer (R79, R80). -/
def identityOf (capacity : Word32) (addressing : Byte) : Option (Nat × Addressing) :=
  if capacity.toNat = 0 then none
  else match addressing.toNat with
    | 0 => if capacity.toNat ≤ Config.byteCardLimit then some (capacity.toNat, .byte) else none
    | 1 => some (capacity.toNat, .block)
    | _ => none

/-- The slot view of a STATUS completion (R81, R209). -/
def State.statusResults (s : State) (x : Slot) (v : Word32) (locked : Bool) : Bytes :=
  let r := s.slot x
  toBytes 4 v.toNat ++ opt1 (r.base.map Base.code) ++ [orderByte r.bound]
    ++ (if r.base = some .ready then
          toBytes 4 (r.capacity.getD 0) ++ b1 ((r.addressing.map Addressing.code).getD 0)
        else toBytes 4 0 ++ b1 0)
    ++ flagByte locked

/-- STATUS ends DONE: the lock switch is read as its completion is formed (R81). Log 7. -/
def State.statusDone (s : State) (g : Grant) (v : Word32) (locked : Bool) (flips : List ParityFlip) :
    State :=
  if g.stop.isSome then s.stopGrant g
  else
    (s.updSlot g.slot (fun r => { r with lock := some locked })).doneCard g .kept
      (s.statusResults g.slot v locked) flips

/-- The bytes of a RAW response by its response length (R82). -/
def rawBytes (len : Nat) : Nat := if len = 1 then 4 else 16

/-- RAW's response (R82, R209). Log 14. -/
def State.rawAnswered (s : State) (g : Grant) (response : Bytes) (flips : List ParityFlip) : State :=
  match (s.slot g.slot).request with
  | some q =>
    if response.length = rawBytes q.rawLen then
      s.doneCard g .kept (b1 q.rawLen ++ response) flips
    else s.protocolFault g flips
  | none => s

/-- The next block is awaited: the block timer runs, or the clock stays stopped while the write buffer of a staged read is full (R85, R100). -/
def State.awaitBlock (s : State) (g : Grant) : State :=
  match g.prefetch, s.ctx g.slot with
  | false, some c =>
    if Config.bufferLimit ≤ c.buffer.length then s.setGrant (some { g with stage := .heldBuf, timer := none })
    else s.setGrant (some { g with stage := .reading, timer := some s.now })
  | _, _ => s.setGrant (some { g with stage := .reading, timer := some s.now })

/-- A response to the command that was sent; one that does not answer it is a protocol fault (R79 to R82, R85, R86). Log 19. -/
def State.cardAnswered (s : State) (g : Grant) (c : CardCmd) (a : CardAnswer) (locked : Bool)
    (flips : List ParityFlip) : State :=
  match c, a with
  | .idReset, .ack => s.nextCommand g .idReady
  | .idReady, .notReady => s.nextCommand g .idReady
  | .idReady, .ready => s.nextCommand g .idRecord
  | .idRecord, .identity record capacity addressing =>
    match identityOf capacity addressing with
    | some (cap, how) =>
      if record.length = 16 then
        s.doneCard g (.identified cap how) (record ++ toBytes 4 cap ++ b1 how.code) flips
      else s.protocolFault g flips
    | none => s.protocolFault g flips
  | .status, .status v => s.statusDone g v locked flips
  | .raw _ _, .raw response => s.rawAnswered g response flips
  | .read _, .ack => s.awaitBlock g
  | .write _, .ack => s.setGrant (some { g with stage := .writing, timer := none })
  | _, _ => s.protocolFault g flips

/-- CARD_COMMAND_RESPONSE (R79 to R82, R86). -/
def execCardCommandResponse (answer : CardAnswer) (locked : Bool) (flips : List ParityFlip) (s : State) :
    Host.Outcome State Fault Refusal :=
  match s.bus.grant with
  | some g =>
    match g.stage with
    | .awaiting c => .next (s.cardAnswered g c answer locked flips)
    | .sending _ | .reading | .heldUp | .heldBuf | .moving | .writing | .busyHold => .next s
  | none => .next s

/-! ### Blocks read (R86, R89, R100, R101, R110) -/

/-- The read goes on with the next block. -/
def State.nextBlock (s : State) (g : Grant) (stage : BusStage) : State :=
  s.setGrant (some { g with
    stage := stage, next := g.next + 1, retried := false,
    timer := if stage = .reading then some s.now else none })

/-- A block's check fails: read again once from that block, or lost (R86). A grant that was to stop does not read again (log 20). -/
def State.blockFailed (s : State) (g : Grant) (flips : List ParityFlip) : State :=
  if g.retried then s.blockLost g flips
  else
    let s1 := s.reportCard g.slot (s.grantOp g) .cardCrcRetry (some g.next)
    if g.stop.isSome then s1.stopGrant g
    else s1.setGrant (some { g with
      stage := .sending (.read ((s1.slot g.slot).cardAddress g.next)), retried := true,
      timer := none })

/-- A block joins the prefetch buffer (R110). -/
def SlotRec.prefetched (r : SlotRec) (p : Prefetch) (block : Bytes) : SlotRec :=
  { r with buf := match r.buf with
      | some b => some { b with blocks := b.blocks ++ [block] }
      | none => some { start := p.start, blocks := [block] } }

/-- The blocks in the prefetch buffer. -/
def SlotRec.buffered (r : SlotRec) : Nat :=
  match r.buf with
  | some b => b.blocks.length
  | none => 0

/-- A prefetched block is verified (R110): the prefetch ends at its target or where it was to stop. -/
def State.prefetchBlock (s : State) (g : Grant) (block : Bytes) : State :=
  match (s.slot g.slot).prefetch with
  | some p =>
    let s1 := s.updSlot g.slot (fun r => r.prefetched p block)
    if g.stop.isSome ∨ p.target ≤ (s1.slot g.slot).buffered then s1.endPrefetch g.slot
    else s1.nextBlock g .reading
  | none => s.endPrefetch g.slot

/-- A staged read's block is verified (R99 to R101). -/
def State.stagedBlock (s : State) (g : Grant) (c : Ctx) (block : Bytes) : State :=
  let c1 := c.takeBlock block
  if g.stop.isSome then
    (s.setCtx g.slot (some { c1 with cause := some .stopped, moved := [] })).setGrant none
  else if c1.received = c1.count then
    (s.setCtx g.slot (some { c1 with cause := some .done })).setGrant none
  else
    (s.setCtx g.slot (some c1)).nextBlock g
      (if Config.bufferLimit ≤ c1.buffer.length then .heldBuf else .reading)

/-- A full DATA frame of a read that goes on is formed: classified, then placed, waiting or discarded (R88, R89). -/
def State.fullFrame (s : State) (g : Grant) (q : CardReq) (flips : List ParityFlip) : State :=
  let x := g.slot
  let a := s.answerAction flips q.action q.kind q.gen
  if a.1.part = .halted then (a.1.stopNow x).settle
  else
    let s1 := a.1.updSlot x (fun r => { r with
      request := some { q with gathered := [], action := some a.2 } })
    if a.2 then
      let d := s1.offer (.cardData x) (s1.cardFrame x .data q.tag q.gathered.flatten)
      d.1.nextBlock g (if d.2 then .reading else .heldUp)
    else s1.nextBlock g .reading

/-- A block of a READ to link is verified (R89). -/
def State.linkBlock (s : State) (g : Grant) (q : CardReq) (block : Bytes) (flips : List ParityFlip) :
    State :=
  let q1 := { q with done := q.done + 1, gathered := q.gathered ++ [block] }
  let s1 := s.updSlot g.slot (fun r => { r with request := some q1 })
  if g.stop.isSome then s1.stopGrant g
  else if q1.done = q1.count then s1.finishCard g.slot .done .kept q1.counts flips
  else if q1.gathered.length < 4 then s1.nextBlock g .reading
  else s1.fullFrame g q1 flips

/-- A block has ended on the bus (R86). -/
def State.blockEnded (s : State) (g : Grant) (block : Bytes) (checkOk : Bool)
    (flips : List ParityFlip) : State :=
  if !checkOk then s.blockFailed g flips
  else if g.prefetch then s.prefetchBlock g block
  else match s.ctx g.slot, (s.slot g.slot).request with
    | some c, _ => s.stagedBlock g c block
    | none, some q => s.linkBlock g q block flips
    | none, none => s

/-- CARD_BLOCK_RECEIVED (R86). -/
def execCardBlockReceived (data : Bytes) (checkOk : Bool) (flips : List ParityFlip) (s : State) :
    Host.Outcome State Fault Refusal :=
  match s.bus.grant with
  | some g => if g.stage = .reading then .next (s.blockEnded g data checkOk flips) else .next s
  | none => .next s

/-! ### Blocks written (R86, R91) -/

/-- The check token of a written block (R86): the busy-hold begins, or the block is written again once, or lost. -/
def State.tokenTaken (s : State) (g : Grant) (accepted : Bool) (flips : List ParityFlip) : State :=
  if accepted then s.setGrant (some { g with stage := .busyHold, timer := some s.now })
  else if g.retried then s.blockLost g flips
  else
    let s1 := s.reportCard g.slot (s.grantOp g) .cardCrcRetry (some g.next)
    if g.stop.isSome then s1.stopGrant g
    else s1.setGrant (some { g with retried := true, timer := none })

/-- CARD_CHECK_TOKEN (R86). -/
def execCardCheckToken (accepted : Bool) (flips : List ParityFlip) (s : State) :
    Host.Outcome State Fault Refusal :=
  match s.bus.grant with
  | some g => if g.stage = .writing then .next (s.tokenTaken g accepted flips) else .next s
  | none => .next s

/-- The busy-hold of a written block ends: the block is counted, and the WRITE goes on or ends DONE (R91). -/
def State.blockWritten (s : State) (g : Grant) (flips : List ParityFlip) : State :=
  match (s.slot g.slot).request with
  | some q =>
    let q1 := { q with done := q.done + 1 }
    let s1 := s.updSlot g.slot (fun r => { r with request := some q1 })
    if g.stop.isSome ∨ q1.done = q1.count then s1.doneCard g .kept q1.counts flips
    else s1.nextBlock g .writing
  | none => s

/-- CARD_BUSY_RELEASE (R91). -/
def execCardBusyRelease (flips : List ParityFlip) (s : State) : Host.Outcome State Fault Refusal :=
  match s.bus.grant with
  | some g => if g.stage = .busyHold then .next (s.blockWritten g flips) else .next s
  | none => .next s

/-! ### Timeouts (R80, R85) -/

/-- CARD_RESPONSE_TIMEOUT (R85): no address. -/
def execCardResponseTimeout (flips : List ParityFlip) (s : State) : Host.Outcome State Fault Refusal :=
  match s.bus.grant with
  | some g =>
    match g.stage with
    | .awaiting _ => .next (s.cardTimedOut g none flips)
    | .sending _ | .reading | .heldUp | .heldBuf | .moving | .writing | .busyHold => .next s
  | none => .next s

/-- CARD_BLOCK_TIMEOUT (R85): the block awaited or written is the address (R87). -/
def execCardBlockTimeout (flips : List ParityFlip) (s : State) : Host.Outcome State Fault Refusal :=
  match s.bus.grant with
  | some g =>
    if g.stage = .reading ∨ g.stage = .busyHold then .next (s.cardTimedOut g (some g.next) flips)
    else .next s
  | none => .next s

/-- The readiness enquiry is being repeated (R79). -/
def Grant.enquiring (g : Grant) : Bool :=
  g.readySince.isSome && (g.stage == .sending .idReady || g.stage == .awaiting .idReady)

/-- IDENTIFY_READY_TIMEOUT (R80). -/
def execIdentifyReadyTimeout (flips : List ParityFlip) (s : State) : Host.Outcome State Fault Refusal :=
  match s.bus.grant with
  | some g => if g.enquiring then .next (s.cardTimedOut g none flips) else .next s
  | none => .next s

/-! ## Staged reads: the write buffer and the completion (R99 to R104, R111) -/

/-- Pieces written in stream order, each one access: a bulk request taken before that meets a piece comes first (R45, R99). Log 27. -/
def State.writePieces (s : State) (n : OrderNo) : List (Nat × Bytes) → Access
  | [] => .data s []
  | (o, bs) :: ps =>
    match s.bulkFirst n 1 o bs.length with
    | .data s1 _ | .poisoned s1 =>
      match s1.writeWindow n o bs with
      | .data s2 _ | .poisoned s2 => s2.writePieces n ps
      | .fault f => .fault f
    | .fault f => .fault f

/-- The context once its oldest block has been written; blocks moved from the prefetch buffer enter as room frees (R100, R111). -/
def Ctx.drained (c : Ctx) (written : Nat) (rest : List Bytes) : Ctx :=
  let c1 := { c with
    buffer := rest, placed := 0, delivered := c.delivered + 1, written := c.written + written }
  if c1.moved.isEmpty then c1 else feed c1.moved c1

/-- A read held between blocks because the write buffer was full goes on (R85, R100). -/
def State.resumeRead (s : State) (x : Slot) : State :=
  match s.bus.grant with
  | some g =>
    if g.slot = x ∧ g.stage = .heldBuf then
      s.setGrant (some { g with stage := .reading, timer := some s.now })
    else s
  | none => s

/-- k more pieces of the oldest block have been written; with its last piece the block leaves the write buffer (R100). -/
def State.piecesWritten (s : State) (x : Slot) (k : Nat) : State :=
  match s.ctx x with
  | none => s
  | some c =>
    match c.buffer with
    | [] => s
    | b :: rest =>
      let ps := c.oldestPieces b
      if ps.length ≤ c.placed + k then
        ((s.setCtx x (some (c.drained (pieceBytes ps) rest))).resumeRead x).afterFeed x
      else s.setCtx x (some { c with placed := c.placed + k })

/-- WRITE_BUFFER_DRAIN (R99, R100): the next pieces of the oldest block are written, as many as the drain says. Log 26, log 27. -/
def execWriteBufferDrain (drain : DrainRun) (s : State) : Host.Outcome State Fault Refusal :=
  match s.ctx drain.slot with
  | none => .next s
  | some c =>
    match c.buffer with
    | [] => .next s
    | b :: _ =>
      let ps := ((c.oldestPieces b).drop c.placed).take drain.count
      match s.writePieces c.order ps with
      | .data s1 _ | .poisoned s1 => .next (s1.piecesWritten drain.slot ps.length).settle
      | .fault f => .fault f

/-- The status of a staged read's completion (R104); a stopped read has none (R102). -/
def Ctx.status (c : Ctx) : Option CompletionStatus :=
  match c.cause with
  | some .done =>
    some (if chainCapacity c.chain < c.count * Config.blockBytes then .shortChain else .done)
  | some .mediaRemoved => some .mediaRemoved
  | some .cardTimeout => some .cardTimeout
  | some .cardDataError => some .cardDataError
  | some .stopped | none => none

/-- The results of a completion record (R103, R209). -/
def Ctx.results (c : Ctx) : Bytes :=
  toBytes 2 c.delivered ++ toBytes 2 c.discarded ++ toBytes 4 (chainCapacity c.chain - c.written)

/-- Steps 1 to 4 of R102. -/
def State.completeStaged (s : State) (x : Slot) (c : Ctx) (st : CompletionStatus)
    (flips : List ParityFlip) : State :=
  let a := s.answerAction flips c.action .readStaged c.gen
  if a.1.part = .halted ∨ !a.2 then a.1.endStaged x
  else
    let d := a.1.offer (.stagedDone x)
      (a.1.cardFrame x .transit c.tag (completionPayload .readStaged st c.results))
    if d.2 then d.1.endStaged x
    else d.1.setCtx x (some { c with action := some true, waits := true })

/-- STAGED_READ_COMPLETE (R102 to R104): the card part has ended and the write buffer is empty; a read cut off by HALTED forms no record (R107). -/
def execStagedReadComplete (slot : Slot) (flips : List ParityFlip) (s : State) :
    Host.Outcome State Fault Refusal :=
  match s.ctx slot with
  | none => .next s
  | some c =>
    if c.cause.isNone ∨ !c.buffer.isEmpty ∨ !c.moved.isEmpty ∨ c.waits then .next s
    else match c.status with
      | none => .next (s.endStaged slot)
      | some st =>
        if s.part = .halted then .next (s.endStaged slot)
        else .next (s.completeStaged slot c st flips)

end Sys2Proof.Machine
end

