-- ==== Sys2Proof/Machine/Engines.lean ====
section
/-! DEFINITION. The engine lines, the Band Streamers, status reports, engine transit traffic and READ_ENGINE (R130 to R151). -/

namespace Sys2Proof.Machine

/-! ## The engine line (R131) -/

/-- A BAND waits for the line. -/
def EngineMsg.isBand : EngineMsg → Bool
  | .band _ _ _ => true
  | .pageOpen .. | .pageClose _ | .abandon | .transit _ _ => false

/-- A PAGE_OPEN waits for the line. -/
def EngineMsg.isOpen : EngineMsg → Bool
  | .pageOpen .. => true
  | .band _ _ _ | .pageClose _ | .abandon | .transit _ _ => false

/-- An ABANDON waits for the line. -/
def EngineMsg.isAbandon : EngineMsg → Bool
  | .abandon => true
  | .pageOpen .. | .band _ _ _ | .pageClose _ | .transit _ _ => false

/-- ENGINE_SEND_START (R131): the message that became ready first. -/
def execEngineSendStart (engine : EngineNo) (s : State) : Host.Outcome State Fault Refusal :=
  match (s.eng engine).lineBusy, (s.eng engine).lineWait with
  | none, m :: rest =>
    .next (s.updEng engine (fun g => { g with lineBusy := some m, lineWait := rest }))
  | _, _ => .next s

/-- PAGE_CLOSE is made ready: CLOSING, no credit, no response timer (R135, R139). -/
def State.closePage (s : State) (e : EngineNo) : State :=
  s.updEng e (fun g =>
    ({ g with state := .closing, timer := none, credits := 0 }).ready_ (.pageClose g.bandCount))

/-- A BAND has been sent; after the last one PAGE_CLOSE follows (R137, R139). While a PAGE_OPEN waits, the BAND was of an earlier page. -/
def State.bandSent (s : State) (e : EngineNo) (seq : Nat) : State :=
  let g := s.eng e
  if g.state = .streaming ∧ !g.lineWait.any EngineMsg.isOpen then
    let s1 := s.updEng e (fun g => { g with lastSent := some seq })
    if g.nextBand = g.bandCount ∧ !g.lineWait.any EngineMsg.isBand then s1.closePage e else s1
  else s

/-- What follows a message that has been sent whole (R134, R137, R139, R143, R57): a PAGE_OPEN or an ABANDON behind which another waits was an earlier page's. -/
def State.messageSent (s : State) (e : EngineNo) : EngineMsg → State
  | .pageOpen .. =>
    if (s.eng e).state = .opening ∧ !(s.eng e).lineWait.any EngineMsg.isOpen then
      s.startTimer e .response
    else s
  | .band seq _ _ => s.bandSent e seq
  | .pageClose _ => if (s.eng e).state = .closing then s.startTimer e .page else s
  | .abandon =>
    if (s.eng e).state = .abandoning ∧ !(s.eng e).lineWait.any EngineMsg.isAbandon then
      s.startTimer e .response
    else s
  | .transit _ _ => s.updEng e (fun g => { g with transit := none })

/-- ENGINE_SEND_DONE (R131). -/
def execEngineSendDone (engine : EngineNo) (s : State) : Host.Outcome State Fault Refusal :=
  match (s.eng engine).lineBusy with
  | some m =>
    .next ((s.updEng engine (fun g => { g with lineBusy := none })).messageSent engine m).settle
  | none => .next s

/-- An ENGINE_PROTOCOL error (R131, R133). -/
def State.protocolError (s : State) (e : EngineNo) : State := s.reportEngine e .engineProtocol none

/-- ENGINE_MESSAGE_BEGIN (R146): a transit message is in flight from its first byte. -/
def execEngineMessageBegin (engine : EngineNo) (s : State) : Host.Outcome State Fault Refusal :=
  if s.resetLow ∨ (s.eng engine).upMsg.isSome then .next s
  else .next (s.updEng engine (fun g => { g with
    upMsg := some { gen := s.portGen (.enginePort engine), observed := false } }))

/-- ENGINE_MESSAGE_MALFORMED (R131, R207): the message received is discarded. Bytes that are a sound message are another row's. Log 1, log 35. -/
def execEngineMessageMalformed (rx : EngineRx) (s : State) : Host.Outcome State Fault Refusal :=
  if s.resetLow ∨ (engineIn rx.bytes).isSome then .next s
  else .next ((s.protocolError rx.engine).updEng rx.engine (fun g => { g with upMsg := none })).settle

/-! ## Opening a page, credits, bands (R134 to R138) -/

/-- QUEUE_HEAD_TAKE (R122, R134): RUNNING, the engine IDLE, an entry in its queue. -/
def execQueueHeadTake (engine : EngineNo) (s : State) : Host.Outcome State Fault Refusal :=
  if s.part = .running ∧ !s.resetLow ∧ (s.eng engine).state = .idle then
    match (s.eng engine).queue with
    | r :: rest =>
      .next (((s.updEng engine (fun g => { g with queue := rest })).updItem r.order r.item
        (fun it => { it with state := .printing })).openPage engine r)
    | [] => .next s
  else .next s

/-- Credits added, up to 4 (R135). -/
def State.addCredits (s : State) (e : EngineNo) (n : Nat) : State :=
  let sum := (s.eng e).credits + n
  let s1 := if Config.creditLimit < sum then s.protocolError e else s
  (s1.updEng e (fun g => { g with
    credits := min Config.creditLimit sum, timer := none, state := .streaming })).tryBand e

/-- A protocol message that its state does not admit (R133): discarded with an error; a message received in IDLE restarts the IDLE timer (R146). -/
def State.unexpected (s : State) (e : EngineNo) : State := (s.protocolError e).touchIdle e

/-- A CREDIT taken (R133, R135). -/
def State.takeCredit (s : State) (e : EngineNo) (n : Nat) : State :=
  match (s.eng e).state with
  | .offline | .closing | .abandoning => s
  | .idle | .faulted => s.unexpected e
  | .opening | .streaming => s.addCredits e n

/-- A message from an engine is its row's when its bytes say so; the interface is not held in reset. Log 1, log 40. -/
def State.hear (s : State) (bytes : Bytes) (k : EngineIn → Option State) : State :=
  if s.resetLow then s
  else match engineIn bytes with
    | some m => (k m).getD s
    | none => s

/-- CREDIT (R132, R133, R135). -/
def execCredit (engine : EngineNo) (bytes : Bytes) (s : State) : Host.Outcome State Fault Refusal :=
  .next (s.hear bytes (fun m => match m with
    | .credit n => some (s.takeCredit engine n)
    | .printed | .fault _ | .abandoned | .transit _ _ => none))

/-- BAND is made ready: one credit taken, the next band rises; the response timer starts when no credit is left for a further band (R135, R137). -/
def State.bandReady (s : State) (e : EngineNo) (k rows : Nat) (raster : Bytes) : State :=
  let s1 := s.updEng e (fun g =>
    ({ g with credits := g.credits - 1, nextBand := g.nextBand + 1 }).ready_ (.band k rows raster))
  let g := s1.eng e
  if g.credits = 0 ∧ g.nextBand < g.bandCount then s1.startTimer e .response else s1.tryBand e

/-- A band read ended DATA_POISONED (R138). The error carries STREAMING, the state of the read, also where the error of the same read has halted the part and the page is being abandoned already (log 58). -/
def State.bandPoisoned (s : State) (e : EngineNo) (n : OrderNo) (k : Nat) : State :=
  let s1 := s.report { unit := .engine e, op := .engineIn .streaming, cause := .bandSourcePoisoned }
    (some n) (some (.band k))
  if (s1.eng e).state = .streaming then s1.abandonPage e else s1

/-- The read of the band of the current page ends (R137, R138); the whole access is made here. Log 55. -/
def State.endBandRead (s : State) (e : EngineNo) (k : Nat) (r : ItemRef) (it : Item)
    (upsets : List Upset) : Host.Outcome State Fault Refusal :=
  let s1 := (s.updEng e (fun g => { g with bandRead := none })).applyUpsets r.order upsets
  match s1.readWindow r.order .bandRead (it.bandOffset k) (it.bandLength k) with
  | .data s2 bytes => .next (s2.bandReady e k (it.rowsOf k) bytes).settle
  | .poisoned s2 => .next (s2.bandPoisoned e r.order k).settle
  | .fault f => .fault f

/-- The read of a band whose copy has been settled ends: its errors are reported as any read's, its bytes discarded (R137, R143); of an order that has been closed meanwhile it reads nothing. Log 34. -/
def State.endStaleRead (s : State) (e : EngineNo) (st : StaleRead) (upsets : List Upset) :
    Host.Outcome State Fault Refusal :=
  let s1 := s.updEng e (fun g => { g with stale := none })
  if st.lost then .next (s1.tryBand e)
  else match (s1.applyUpsets st.order upsets).readWindow st.order .bandRead st.offset st.length with
    | .data s2 _ | .poisoned s2 => .next (s2.tryBand e).settle
    | .fault f => .fault f

/-- The read in progress of an engine ends, the one left to end first (R137). -/
def State.endRead (s : State) (e : EngineNo) (upsets : List Upset) : Host.Outcome State Fault Refusal :=
  match (s.eng e).stale with
  | some st => s.endStaleRead e st upsets
  | none =>
    match (s.eng e).bandRead, (s.eng e).item, s.currentItem e with
    | some k, some r, some it => s.endBandRead e k r it upsets
    | _, _, _ => .next s

/-- A bulk request taken before the read in progress and on a page of it comes first (R41, R45). Log 27. -/
def State.bulkBeforeBand (s : State) (e : EngineNo) : Access :=
  match (s.eng e).stale with
  | some st =>
    if st.lost then .data s [] else s.bulkFirst st.order Config.pageBytes st.offset st.length
  | none =>
    match (s.eng e).bandRead, (s.eng e).item, s.currentItem e with
    | some k, some r, some it =>
      s.bulkFirst r.order Config.pageBytes (it.bandOffset k) (it.bandLength k)
    | _, _, _ => .data s []

/-- BAND_READ_END (R137, R138). Log 55. -/
def execBandReadEnd (engine : EngineNo) (upsets : List Upset) (s : State) :
    Host.Outcome State Fault Refusal :=
  match s.bulkBeforeBand engine with
  | .data s1 _ | .poisoned s1 => s1.endRead engine upsets
  | .fault f => .fault f

/-! ## The end of a page (R140 to R143, R147) -/

/-- A page ends: the item leaves PRINTING, the engine takes its new state, ENGINE_EVENT and ITEM_EVENT are raised, and the queue returns on FAULTED (R123, R141, R143). Log 50. -/
def State.endPage (s : State) (e : EngineNo) (st : EngineState) (item : ItemState)
    (outcome : CopyOutcome) : State :=
  match (s.eng e).item with
  | none => s
  | some r =>
    let copy := (s.eng e).copy.getD 0
    let s1 := ((s.leavePrinting e item).updEng e (fun g => { g with state := st })).touchIdle e
    let s2 := (s1.raiseEngineEvent e (some { ref := r, copy := copy, outcome := outcome })).raiseItemEvent
      r.order r.item
    if st = .faulted then s2.returnAll e else s2

/-- What the current item becomes when its page ends without delivering it whole. -/
def State.failedItem (s : State) (e : EngineNo) : ItemState :=
  match (s.eng e).item with
  | some r => s.failedState r.order
  | none => .held

/-- The state after a FAULT (R141, R143). -/
def stateAfter : FaultCause → EngineState
  | .dataError => .idle
  | .paperOut | .ribbonOut | .jam | .headTemp | .other => .faulted

/-- The last fault cause is recorded. -/
def State.recordFault (s : State) (e : EngineNo) (c : FaultCause) : State :=
  s.updEng e (fun g => { g with lastFault := some c })

/-- The copy delivered, and what follows it: DONE, WITHDRAWN under cancel, or the next copy (cases 2 to 4 of R140). -/
def State.deliver (s : State) (e : EngineNo) (r : ItemRef) : State :=
  let s1 := (s.updItem r.order r.item (fun it => { it with delivered := it.delivered + 1 })).stopTimer e
  match (s1.order r.order).items[r.item]? with
  | some it =>
    if it.delivered = it.copies then s1.endPage e .idle .done .delivered
    else if (s1.order r.order).state = .cancelling then s1.endPage e .idle .withdrawn .delivered
    else (s1.openPage e r).raiseEngineEvent e
      (some { ref := r, copy := (s.eng e).copy.getD 0, outcome := .delivered })
  | none => s1

/-- PRINTED while CLOSING (R140). Log 30. -/
def State.printedClosing (s : State) (e : EngineNo) : State :=
  match (s.eng e).item with
  | some r =>
    if (s.eng e).wasted then s.endPage e .idle (s.failedItem e) .wastedAbandoned
    else s.deliver e r
  | none => s

/-- A PRINTED taken (R133, R140). -/
def State.takePrinted (s : State) (e : EngineNo) : State :=
  match (s.eng e).state with
  | .offline => s
  | .closing => s.printedClosing e
  | .idle | .opening | .streaming | .abandoning | .faulted => s.unexpected e

/-- PRINTED (R133, R140). -/
def execPrinted (rx : EngineRx) (s : State) : Host.Outcome State Fault Refusal :=
  .next (s.hear rx.bytes (fun m => match m with
    | .printed => some (s.takePrinted rx.engine)
    | .credit _ | .fault _ | .abandoned | .transit _ _ => none))

/-- A FAULT that ends the open copy (R141). -/
def State.faultCopy (s : State) (e : EngineNo) (c : FaultCause) (outcome : CopyOutcome) : State :=
  ((s.wasteCopy e).recordFault e c).endPage e (stateAfter c) (s.failedItem e) outcome

/-- A FAULT in IDLE (R141); DATA_ERROR there is a protocol error. Log 52. -/
def State.faultIdle (s : State) (e : EngineNo) (c : FaultCause) : State :=
  if c = .dataError then s.unexpected e
  else
    (((s.recordFault e c).updEng e (fun g => { g with state := .faulted, timer := none })).raiseEngineEvent
      e none).returnAll e

/-- A FAULT taken (R133, R141, R143). -/
def State.takeFault (s : State) (e : EngineNo) (c : FaultCause) : State :=
  match (s.eng e).state with
  | .offline => s
  | .idle => s.faultIdle e c
  | .opening | .streaming | .closing => s.faultCopy e c (.wastedFault c)
  | .abandoning =>
    (s.recordFault e c).endPage e (stateAfter c) (s.failedItem e) .wastedAbandoned
  | .faulted => (s.recordFault e c).raiseEngineEvent e none

/-- FAULT (R133, R141, R143). -/
def execFault (engine : EngineNo) (bytes : Bytes) (s : State) : Host.Outcome State Fault Refusal :=
  .next (s.hear bytes (fun m => match m with
    | .fault c => some (s.takeFault engine c)
    | .credit _ | .printed | .abandoned | .transit _ _ => none))

/-- An ABANDONED taken (R133, R143). -/
def State.takeAbandoned (s : State) (e : EngineNo) : State :=
  match (s.eng e).state with
  | .offline => s
  | .abandoning => s.endPage e .idle (s.failedItem e) .wastedAbandoned
  | .idle | .opening | .streaming | .closing | .faulted => s.unexpected e

/-- ABANDONED (R133, R143). -/
def execAbandoned (rx : EngineRx) (s : State) : Host.Outcome State Fault Refusal :=
  .next (s.hear rx.bytes (fun m => match m with
    | .abandoned => some (s.takeAbandoned rx.engine)
    | .credit _ | .printed | .fault _ | .transit _ _ => none))

/-- The engine's timer of a kind runs. -/
def State.timerRuns (s : State) (e : EngineNo) (k : TimerKind) : Bool :=
  match (s.eng e).timer with
  | some t => t.kind == k
  | none => false

/-- An expiry taken as FAULT(OTHER) (R142). -/
def State.timeoutCopy (s : State) (e : EngineNo) (band : Option Nat) : State :=
  (s.reportEngine e .engineTimeout band).faultCopy e .other .wastedTimeout

/-- ENGINE_RESPONSE_TIMEOUT (R142, R143). In STREAMING the address is the last band sent, none before one has been sent (log 59). -/
def execEngineResponseTimeout (engine : EngineNo) (s : State) : Host.Outcome State Fault Refusal :=
  if s.timerRuns engine .response then
    match (s.eng engine).state with
    | .opening => .next (s.timeoutCopy engine none)
    | .streaming => .next (s.timeoutCopy engine (s.eng engine).lastSent)
    | .abandoning =>
      .next ((s.reportEngine engine .engineTimeout none).endPage engine .faulted
        (s.failedItem engine) .wastedAbandoned)
    | .offline | .idle | .closing | .faulted => .next s
  else .next s

/-- PAGE_TIMEOUT (R142). -/
def execPageTimeout (engine : EngineNo) (s : State) : Host.Outcome State Fault Refusal :=
  if s.timerRuns engine .page ∧ (s.eng engine).state = .closing then
    .next (s.timeoutCopy engine (s.eng engine).lastSent)
  else .next s

/-- ENGINE_IDLE_TIMEOUT (R142). -/
def execEngineIdleTimeout (engine : EngineNo) (s : State) : Host.Outcome State Fault Refusal :=
  if s.timerRuns engine .response ∧ (s.eng engine).state = .idle then
    .next (((s.updEng engine (fun g => { g with
      state := .offline, ready := false, timer := none })).raiseEngineEvent engine none).returnAll engine)
  else .next s

/-! ## Status reports (R144) -/

/-- The state after a status report (R144). -/
def EngineState.reported (st : EngineState) (ready : Bool) : EngineState :=
  match st, ready with
  | .offline, true | .faulted, true | .idle, true => .idle
  | .idle, false => .offline
  | .offline, false => .offline
  | .faulted, false => .faulted
  | .opening, _ => .opening
  | .streaming, _ => .streaming
  | .closing, _ => .closing
  | .abandoning, _ => .abandoning

/-- The ready flag and the loaded media of a status report's body; none when it is not observed (R144). -/
def reportOf (body : Bytes) : Option (Bool × Option Nat) :=
  match body with
  | r :: m :: _ => match flagOf r with
    | some ready => some (ready, if m.toNat ≤ 15 then some m.toNat else none)
    | none => none
  | _ => none

/-- A status report observed (R144): ready, media and state, one ENGINE_EVENT for a change, then the entries that leave. -/
def State.observeReport (s : State) (e : EngineNo) (ready : Bool) (media : Option Nat) : State :=
  let g := s.eng e
  let st := g.state.reported ready
  let s1 := (s.updEng e (fun g => { g with
    ready := ready, media := media, state := st,
    timer := if st = .offline then none else g.timer })).touchIdle e
  let s2 := if st ≠ g.state ∨ media ≠ g.media then s1.raiseEngineEvent e none else s1
  if g.state = .idle ∧ st = .offline then s2.returnAll e
  else if media ≠ g.media then s2.returnUnmatched e
  else s2

/-- A TRANSIT message with code 0001h is observed where its body is a report (R144). -/
def State.observe (s : State) (e : EngineNo) (body : Bytes) : State :=
  match reportOf body with
  | some (ready, media) => s.observeReport e ready media
  | none => s

/-- The code of a status report (R207). -/
def reportCode : Word16 := 0x0001

/-- ENGINE_STATUS_REPORT (R144): the observation; the message itself is passed or dropped by ENGINE_TRANSIT_UP. Log 31. -/
def execEngineStatusReport (engine : EngineNo) (bytes : Bytes) (s : State) :
    Host.Outcome State Fault Refusal :=
  .next (s.hear bytes (fun m => match m with
    | .transit code body =>
      if code = reportCode then
        some ((s.observe engine body).updEng engine (fun g => { g with
          upMsg := g.upMsg.map (fun m => { m with observed := true }) }))
      else none
    | .credit _ | .printed | .fault _ | .abandoned => none))

/-! ## Engine transit traffic (R145, R146) -/

/-- A complete transit message is classified in RUNNING, outside it not (R146, R56); the flag says that it passes. A part that the classification halts discards it. -/
def State.classifyUp (s : State) (gen : Nat) (code : Word16) (flips : List ParityFlip) : State × Bool :=
  if s.part = .running then
    let c := (s.flipBits flips).classify gen (engineMsg true code)
    (c.1, c.1.part == .running && c.2.passes)
  else (s, false)

/-- A transit message that passes is placed, or held until room frees (R146). -/
def State.forwardUp (s : State) (e : EngineNo) (bytes : Bytes) : State :=
  let d := s.offer (.engineUp e)
    { chan := engineChannel e, kind := .transit, order := 0xFF, fip := s.fip, tag := 0,
      payload := bytes }
  if d.2 then d.1 else d.1.updEng e (fun g => { g with upHeld := true })

/-- A complete transit message classified, then passed, held or discarded (R146). One that was completed while another was held is discarded with ENGINE_PROTOCOL, after its classification (log 72). -/
def State.passUp (s : State) (e : EngineNo) (gen : Nat) (code : Word16) (bytes : Bytes)
    (flips : List ParityFlip) : State :=
  let c := s.classifyUp gen code flips
  if (s.eng e).upHeld then c.1.protocolError e
  else if c.2 then c.1.forwardUp e bytes
  else c.1

/-- A complete transit message from the engine: observed if it has not been, then passed, held or dropped, and no longer in flight (R144, R146). -/
def State.takeTransit (s : State) (e : EngineNo) (code : Word16) (body bytes : Bytes)
    (flips : List ParityFlip) : State :=
  let m := (s.eng e).upMsg.getD { gen := s.portGen (.enginePort e), observed := false }
  let s1 := if code = reportCode ∧ !m.observed then s.observe e body else s
  let s2 := (s1.touchIdle e).passUp e m.gen code bytes flips
  (s2.updEng e (fun g => { g with upMsg := none })).settle

/-- ENGINE_TRANSIT_UP (R144, R146): header, body and check value as received; the frame holds them as they are (R207). Log 31. -/
def execEngineTransitUp (engine : EngineNo) (head body check : Bytes) (flips : List ParityFlip)
    (s : State) : Host.Outcome State Fault Refusal :=
  let bytes := head ++ body ++ check
  .next (s.hear bytes (fun m => match m with
    | .transit code report => some (s.takeTransit engine code report bytes flips)
    | .credit _ | .printed | .fault _ | .abandoned => none))

/-- The engine has a page open (R53, R145). -/
def EngineState.hasPage : EngineState → Bool
  | .opening | .streaming | .closing | .abandoning => true
  | .offline | .idle | .faulted => false

/-- A permit held by the order a frame names; a FREE or CLOSING record holds none (R53). -/
def State.framePermit (s : State) (f : DownFrame) (p : Permits → Bool) : Bool :=
  match orderOfByte f.order with
  | some n => (s.order n).live && p (s.order n).permits
  | none => false

/-- Checks 4 to 6 of R145. -/
def State.enginePortCheck (s : State) (e : EngineNo) (f : DownFrame) (a : Action) : Option Status :=
  if (s.eng e).transit.isSome then some .portBusy
  else if a = .passIdle ∧ (s.eng e).state.hasPage then some .busy
  else if a = .passPermit ∧ !s.framePermit f (·.engineService) then some .permitMissing
  else none

/-- The engine port's handling of a host transit message (R145). -/
def State.takeEngine (s : State) (e : EngineNo) (f : DownFrame) (flips : List ParityFlip) : State :=
  match s.part.refusal with
  | some st => s.refuse f st []
  | none => match hostEngineMsg f.payload with
    | none => s.refuse f .badRequest []
    | some (code, body) =>
      let gen := s.portGen (.enginePort e)
      let c := (s.flipBits flips).classify gen (engineMsg false code)
      match c.2 with
      | .invalid => c.1.refuse f .rulesInvalid []
      | .found a _ _ _ =>
        if a = .refuse then c.1.refuse f .refusedByRule []
        else match c.1.enginePortCheck e f a with
          | some st => c.1.refuse f st []
          | none =>
            c.1.updEng e (fun g => ({ g with transit := some gen }).ready_ (.transit code body))

/-- ENGINE_TRANSIT_DOWN (R145). -/
def execEngineTransitDown (flips : List ParityFlip) (s : State) : Host.Outcome State Fault Refusal :=
  match s.nextTake with
  | some (f, rest) =>
    match f.row with
    | .engineDown e => .next ((s.afterTake rest).takeEngine e f flips).settle
    | .badHeader | .misrouted | .unknown | .mgmt _ | .bulkRead | .bulkWrite | .card _ _
    | .writeData _ | .payDown => .next s
  | none => .next s

/-! ## READ_ENGINE (R148) -/

/-- The seconds a timer has left, rounded up. Log 39. -/
def EngineTimer.remaining (t : EngineTimer) (now : Nat) : Nat :=
  (t.length * 1000 - (now - t.start) + 999) / 1000

/-- The timer as READ_ENGINE carries it: NONE, RESPONSE or PAGE, and the time left. Log 14. -/
def timerBytes (t : Option EngineTimer) (now : Nat) : Bytes :=
  match t with
  | some k =>
    b1 (match k.kind with
        | .response => 1
        | .page => 2) ++ optWide (some (toBytes 2 (k.remaining now)))
  | none => b1 0 ++ optWide none

/-- An item reference as READ_ENGINE carries it. -/
def ItemRef.bytes (r : ItemRef) : Bytes := [orderByte (some r.order)] ++ b1 r.item

/-- The record and queue of an engine (R148). Log 14. -/
def State.engineRecord (s : State) (e : EngineNo) : Bytes :=
  let g := s.eng e
  b1 g.state.code ++ flagByte g.ready ++ opt1 g.media ++ opt1 (g.lastFault.map causeCode)
    ++ optWide (g.item.map ItemRef.bytes)
    ++ opt1 g.copy ++ (if g.wasted then b1 0 else [0xFF])
    ++ toBytes 2 g.bandCount ++ toBytes 2 g.nextBand ++ b1 g.credits
    ++ timerBytes g.timer s.now ++ toBytes 2 (s.portGen (.enginePort e))
    ++ listBytes (g.queue.map ItemRef.bytes)

/-- The rule of READ_ENGINE (R148). -/
def readEngineReply (s : State) (f : DownFrame) : Reply :=
  match f.fields with
  | [e] => match engineOf e.toNat with
    | some engine => .yes s (s.engineRecord engine)
    | none => .no s .badRequest
  | _ => .no s .badRequest

/-- READ_ENGINE (R148). -/
def execReadEngine (s : State) : Host.Outcome State Fault Refusal :=
  .next (s.takeMgmt .readEngine readEngineReply)

end Sys2Proof.Machine
end

