-- ==== Sys2Proof/Machine/Payment.lean ====
section
/-! DEFINITION. The payment line, the framer, the Payment Monitor and its outcomes (R152 to R172). -/

namespace Sys2Proof.Machine

/-! ## Downstream messages (R159 to R161) -/

/-- The bytes in the transmit FIFO (R152). -/
def Payment.txBytes (p : Payment) : Nat := (p.tx.map (fun m => m.bytes.length)).sum

/-- The pay states and items that admit a class (check 2 of R160), where the order state does. -/
def Order.admitsClass (o : Order) : PayClass → Bool
  | .authorise => o.pay.state == .none_ || o.pay.state == .declined
  | .capture => o.pay.state == .authorised && !o.hasWork
  | .void_ =>
    o.pay.state == .authorised && !o.hasWork && o.items.all (fun it => it.delivered == 0)
  | .refund => o.pay.state == .captured

/-- The amount limits of a class (check 4 of R160). -/
def Order.withinLimit (o : Order) (k : PayClass) (amount : Nat) : Bool :=
  match k with
  | .authorise | .void_ => true
  | .capture => amount ≤ o.pay.authorised && amount ≤ o.due
  | .refund => o.pay.refunded + amount ≤ o.pay.captured

/-- The value of a decoded amount; an absent amount has none. -/
def Amount.value? : Amount → Option Nat
  | .value n => some n
  | .absent | .unreadable => none

/-- The class tests of R160, in their sequence. -/
def State.classTests (s : State) (n : OrderNo) (k : PayClass) (a : Amount) : Option Status :=
  let o := s.order n
  if s.pay.monitor.isSome then some .terminalBusy
  else if k = .authorise ∧ o.state ≠ .open_ then some .orderState
  else if !o.live then some .orderState
  else if !o.admitsClass k then some .payState
  else if a = .unreadable then some .amountInvalid
  else if !o.withinLimit k (a.value?.getD 0) then some .amountLimit
  else none

/-- Checks 5 to 8 of R159 for a message that names order n. -/
def State.payChecks (s : State) (n : OrderNo) (a : Action) (k : Option PayClass) (amount : Amount)
    (len : Nat) : Option Status :=
  if a = .passIdle ∧ s.pay.monitor.isSome then some .terminalBusy
  else if (a = .passPermit ∨ k = some .refund) ∧ !(s.order n).permits.paymentRefund then
    some .permitMissing
  else match k.bind (fun c => s.classTests n c amount) with
    | some st => some st
    | none => if Config.fifoLimit < s.pay.txBytes + len then some .portBusy else none

/-- The pending pay state of a class (R161). -/
def PayClass.pending : PayClass → PayState
  | .authorise => .requested | .capture => .capturePending | .void_ => .voidPending
  | .refund => .refundPending

/-- A message is written into the transmit FIFO whole (R152). -/
def State.writeTx (s : State) (bytes : Bytes) (gen : Nat) : State :=
  { s with pay := { s.pay with tx := s.pay.tx ++ [{ bytes := bytes, gen := gen }] } }

/-- The monitor's record at an admission (R158, R161). -/
def State.newAwaiting (s : State) (n : OrderNo) (k : PayClass) (amount : Amount) (gen : Nat) : Awaiting :=
  { order := n, cls := k, amount := amount.value?,
    prior := if k = .authorise then some (s.order n).pay.state else none,
    length := (s.imageOf gen).pay.timeout, start := s.now }

/-- The admission of a classed message (R161). -/
def State.admitPayment (s : State) (n : OrderNo) (k : PayClass) (amount : Amount) (bytes : Bytes)
    (gen : Nat) : State :=
  (({ s with pay := { s.pay with monitor := some (s.newAwaiting n k amount gen) } } : State).updOrder n
    (fun o => { o with pay := { o.pay with state := k.pending } })).writeTx bytes gen

/-- Check 4 of R159: the order a frame names, or the refusal. -/
def State.payOrder (s : State) (f : DownFrame) : Except Status OrderNo :=
  match orderOfByte f.order with
  | none => .error .noOrder
  | some n =>
    match (s.order n).state with
    | .free => .error .noOrder
    | .closing => .error .orderState
    | .open_ | .cancelling | .cancelled => .ok n

/-- The payment down port's handling of a classified message (R159 from check 4 on). -/
def State.classedPayment (s : State) (f : DownFrame) (gen : Nat) (a : Action) (cls : Nat)
    (amount : Amount) : State :=
  if a = .refuse then s.refuse f .refusedByRule []
  else match s.payOrder f with
    | .error st => s.refuse f st []
    | .ok n =>
      match s.payChecks n a (payClassOf cls) amount f.payload.length with
      | some st => s.refuse f st []
      | none =>
        match payClassOf cls with
        | some k => s.admitPayment n k amount f.payload gen
        | none => s.writeTx f.payload gen

/-- The payment down port's handling of a host message (R159). -/
def State.takePayment (s : State) (f : DownFrame) (flips : List ParityFlip) : State :=
  match s.part.refusal with
  | some st => s.refuse f st []
  | none =>
    if f.payload.length < 1 ∨ Config.fifoLimit < f.payload.length then s.refuse f .badRequest []
    else
      let gen := s.portGen .payDown
      let c := (s.flipBits flips).classify gen (payMsg false (s.imageOf gen).pay f.payload)
      match c.2 with
      | .invalid => c.1.refuse f .rulesInvalid []
      | .found a _ cls amount => c.1.classedPayment f gen a cls amount

/-- Bytes of the oldest message that have left the transmit FIFO for the line; its last byte stays until PAYMENT_MESSAGE_SENT (R152). Log 36. -/
def TxMsg.sends (m : TxMsg) (left : Nat) : TxMsg :=
  { m with bytes := m.bytes.drop (min left (m.bytes.length - 1)) }

/-- The transmit FIFO once `left` more bytes of its oldest message have gone out (R152). Log 36. -/
def State.lineSends (s : State) (left : Nat) : State :=
  match s.pay.tx with
  | m :: rest => { s with pay := { s.pay with tx := m.sends left :: rest } }
  | [] => s

/-- PAYMENT_TRANSIT_DOWN (R159 to R161), with the bytes that have left the FIFO since it was last looked at. Log 36. -/
def execPaymentTransitDown (left : Nat) (flips : List ParityFlip) (s : State) :
    Host.Outcome State Fault Refusal :=
  .next (s.takeAs .payDown (fun f s1 => ((s1.lineSends left).takePayment f flips).settle))

/-- PAYMENT_MESSAGE_SENT (R152): the oldest message ends on the payment down port. Log 36. -/
def execPaymentMessageSent (s : State) : Host.Outcome State Fault Refusal :=
  match s.pay.tx with
  | _ :: rest => .next ({ s with pay := { s.pay with tx := rest } } : State).settle
  | [] => .next s

/-! ## The receive FIFO and the framer (R153 to R157) -/

/-- A change of the framer. -/
def State.setFramer (s : State) (f : Framer) : State := { s with pay := { s.pay with framer := f } }

/-- A byte that finds the receive FIFO full (R153); reported each time, also while the framer already resynchronises (the model's choice, log 76). -/
def State.rxOverflow (s : State) : State :=
  let s1 := s.reportPayment .rxOverflow
  (({ s1 with pay := { s1.pay with rx := [], lineIdle := false } } : State).framerResync).settle

/-- PAYMENT_RX_BYTE (R153). Log 37. -/
def execPaymentRxByte (byte : Byte) (damaged : Bool) (s : State) : Host.Outcome State Fault Refusal :=
  if s.resetLow then .next s
  else if Config.fifoLimit ≤ s.pay.rx.length then .next s.rxOverflow
  else .next { s with pay := { s.pay with
    rx := s.pay.rx ++ [{ byte := byte, damaged := damaged, afterGap := s.pay.lineIdle }],
    lineIdle := false } }

/-- The message being assembled is malformed: discarded, reported, and the framer resynchronises; it has ended on its port (R157). -/
def State.malformed (s : State) : State :=
  ((s.reportPayment .messageMalformed).framerResync).settle

/-- The message length under LENGTH_PREFIXED, once its length field has been taken (R155). -/
def PayProfile.messageLength (p : PayProfile) (msg : Bytes) : Option Int :=
  if msg.length < p.lenOffset + p.lenWidth then none
  else some (beNat ((msg.drop p.lenOffset).take p.lenWidth) + p.lenAdjust)

/-- What a message is after a byte (R155, R156). -/
inductive Framed where
  | more (trail : Option Nat) | complete | bad
  deriving DecidableEq, Repr

/-- A message after its newest byte, under LENGTH_PREFIXED (R155). -/
def PayProfile.prefixed (p : PayProfile) (msg : Bytes) : Framed :=
  match p.messageLength msg with
  | none => .more none
  | some len =>
    if len < (p.lenOffset + p.lenWidth : Nat) ∨ (Config.fifoLimit : Int) < len then .bad
    else if (msg.length : Int) = len then .complete
    else .more none

/-- A message after its newest byte, under DELIMITED: `trail` counts the bytes still to come after the end byte (R156). -/
def PayProfile.delimited (p : PayProfile) (trail : Option Nat) (msg : Bytes) (b : Byte) : Framed :=
  let left : Option Nat := match trail with
    | some t => some (t - 1)
    | none => if 2 ≤ msg.length ∧ b = p.endByte then some p.trailing else none
  if left = some 0 then .complete
  else if Config.fifoLimit ≤ msg.length then .bad
  else .more left

/-- A message after its newest byte (R155, R156). -/
def Framer.framed (f : Framer) (msg : Bytes) (b : Byte) : Framed :=
  if f.profile.framing = 0 then f.profile.prefixed msg else f.profile.delimited f.trail msg b

/-- A byte joins the message (R155, R156). -/
def State.extendMessage (s : State) (b : Byte) : State :=
  let f := s.pay.framer
  let msg := f.msg ++ [b]
  match f.framed msg b with
  | .more trail => s.setFramer { f with mode := .inMessage, msg := msg, trail := trail }
  | .complete => s.setFramer { f with mode := .inMessage, msg := msg, trail := none, complete := true }
  | .bad => (s.setFramer { f with mode := .inMessage, msg := msg }).malformed

/-- A byte taken while no message is being assembled begins one, or is discarded (R155 to R157). Log 37. -/
def State.startByteTaken (s : State) (b : RxByte) : State :=
  let f := s.pay.framer
  if f.profile.framing = 0 then
    if f.mode = .resync ∧ !b.afterGap then s
    else if b.damaged then s.setFramer { f with mode := .waiting }
    else s.extendMessage b.byte
  else if b.damaged ∨ b.byte ≠ f.profile.startByte then s
  else s.extendMessage b.byte

/-- The framer takes a byte (R153 to R157). A byte that came after a gap ends the message being assembled, and is then taken as one that follows the gap. -/
def State.frameByte (s : State) (b : RxByte) : State :=
  match s.pay.framer.mode with
  | .waiting | .resync => s.startByteTaken b
  | .inMessage =>
    if b.afterGap then s.malformed.startByteTaken b
    else if b.damaged then s.malformed
    else s.extendMessage b.byte

/-- A message that lacks bytes ends malformed once the framer has taken every byte that came before a gap (R157). Log 37. -/
def State.gapEnds (s : State) : State :=
  if s.pay.lineIdle ∧ s.pay.rx.isEmpty ∧ s.pay.framer.mode = .inMessage ∧ !s.pay.framer.complete
      ∧ !s.pay.framer.held then s.malformed
  else s

/-- FRAMER_TAKE_BYTE (R153, R157): not while a complete message has not ended. -/
def execFramerTakeByte (s : State) : Host.Outcome State Fault Refusal :=
  match s.pay.rx with
  | b :: rest =>
    if s.pay.framer.complete ∨ s.pay.framer.held then .next s
    else .next (({ s with pay := { s.pay with rx := rest } } : State).frameByte b).gapEnds
  | [] => .next s

/-- INTER_BYTE_TIMEOUT (R157): 20 ms without a byte; the message is malformed once the framer has taken every byte that came before. Log 37. -/
def execInterByteTimeout (s : State) : Host.Outcome State Fault Refusal :=
  if s.resetLow then .next s
  else .next ({ s with pay := { s.pay with lineIdle := true } } : State).gapEnds

/-- RESYNC_IDLE_GAP (R157): under LENGTH_PREFIXED the byte after the gap begins a message. Log 37. -/
def execResyncIdleGap (s : State) : Host.Outcome State Fault Refusal :=
  if s.resetLow then .next s
  else
    let s1 := { s with pay := { s.pay with lineIdle := true } }
    if s.pay.framer.mode = .resync ∧ s.pay.framer.profile.framing = 0 ∧ !s.pay.framer.complete
        ∧ !s.pay.framer.held ∧ s.pay.rx.isEmpty then .next s1.framerWait
    else .next s1

/-! ## Outcomes (R162 to R166) -/

/-- A TERMINAL_ERROR returns the pay state before the request (R163). -/
def Awaiting.before (m : Awaiting) : PayState :=
  match m.cls with
  | .authorise => m.prior.getD .none_
  | .capture | .void_ => .authorised
  | .refund => .captured

/-- The amount of an outcome against the request amount where they must be equal (R163, R164). -/
def equalAmount (m : Awaiting) : Amount → Option UnknownCause
  | .absent => none
  | .unreadable => some .amountUnreadable
  | .value v => if m.amount = some v then none else some .amountMismatch

/-- The amount of an outcome that only has to be readable (R163). -/
def readableAmount : Amount → Option UnknownCause
  | .unreadable => some .amountUnreadable
  | .absent | .value _ => none

/-- The row of R163 that an outcome satisfies: the payment record after it, or the cause for which the order becomes UNKNOWN (R164). Log 53. -/
def outcomeRow (p : PayRec) (m : Awaiting) (k : OutcomeClass) (a : Amount) : Except UnknownCause PayRec :=
  let req := m.amount.getD 0
  let need (c : Option UnknownCause) (r : PayRec) : Except UnknownCause PayRec :=
    match c with
    | some e => .error e
    | none => .ok r
  match k, m.cls with
  | .approved, .authorise =>
    match a with
    | .absent => .ok { p with state := .authorised, authorised := req }
    | .unreadable => .error .amountUnreadable
    | .value v =>
      if v ≤ req then .ok { p with state := .authorised, authorised := v }
      else .error .amountAboveRequest
  | .declined, .authorise => need (readableAmount a) { p with state := .declined }
  | .declined, .capture => need (readableAmount a) { p with state := .authorised }
  | .captured, .capture => need (equalAmount m a) { p with state := .captured, captured := req }
  | .voided, .void_ => need (readableAmount a) { p with state := .voided, authorised := 0 }
  | .refunded, .refund =>
    need (equalAmount m a) { p with state := .captured, refunded := p.refunded + req }
  | .terminalError, _ => need (readableAmount a) { p with state := m.before }
  | _, _ => .error .wrongClass

/-- The monitor becomes IDLE (R163, R164, R166). -/
def State.freeMonitor (s : State) : State := { s with pay := { s.pay with monitor := none } }

/-- The bound order becomes UNKNOWN with its lost class; PAYMENT_EVENT (R164, R166). -/
def State.loseOutcome (s : State) (m : Awaiting) (outcome : Nat) (c : UnknownCause) : State :=
  ((s.freeMonitor).updOrder m.order (fun o =>
    { o with pay := { o.pay with state := .unknown, lost := some m.cls } })).raisePaymentEvent m.order
      outcome (some c)

/-- An outcome taken (R163 to R165), and the order field of the frame that forwards it (R162). -/
def State.applyOutcome (s : State) (k : OutcomeClass) (a : Amount) : State × Option OrderNo :=
  match s.pay.monitor with
  | none => (s.reportPayment .lateOutcome, none)
  | some m =>
    match outcomeRow (s.order m.order).pay m k a with
    | .ok p =>
      ((s.freeMonitor.updOrder m.order (fun o => { o with pay := p })).raisePaymentEvent m.order k.code
        none, some m.order)
    | .error c => (s.loseOutcome m k.code c, some m.order)

/-- The outcome of a classified message, where its class is one (R162). -/
def State.observeOutcome (s : State) : Verdict → State × Option OrderNo
  | .invalid => (s, none)
  | .found _ _ cls amount =>
    match outcomeOf cls with
    | some k => s.applyOutcome k amount
    | none => (s, none)

/-- The frame that forwards a terminal message (R162, R187). -/
def State.payFrame (s : State) (bytes : Bytes) (order : Option OrderNo) : UpFrame :=
  { chan := 8, kind := .transit, order := orderByte order, fip := s.fip, tag := 0, payload := bytes }

/-- A complete message forwarded, held for room, or discarded (R162). -/
def State.forwardPayment (s : State) (bytes : Bytes) (order : Option OrderNo) (pass : Bool) : State :=
  if pass then
    let d := s.offer .payUp (s.payFrame bytes order)
    if d.2 then d.1.framerNext
    else d.1.setFramer { d.1.pay.framer with complete := false, held := true, msg := [] }
  else s.framerNext

/-- A complete terminal message in RUNNING (R162). -/
def State.takeTerminal (s : State) (flips : List ParityFlip) : State :=
  let f := s.pay.framer
  let c := (s.flipBits flips).classify f.gen (payMsg true f.profile f.msg)
  if c.1.part = .running then
    let o := c.1.observeOutcome c.2
    o.1.forwardPayment f.msg o.2 c.2.passes
  else c.1.framerNext

/-- TERMINAL_MESSAGE_COMPLETE (R162): outside RUNNING the message is discarded without classification. The row is the moment at which the message is complete (the model's choice, log 69). -/
def execTerminalMessageComplete (flips : List ParityFlip) (s : State) : Host.Outcome State Fault Refusal :=
  if s.pay.framer.complete then
    if s.part = .running then .next (s.takeTerminal flips).settle
    else .next s.framerNext.settle
  else .next s

/-- The outcome class field of PAYMENT_EVENT for an expiry: TIMEOUT follows the six classes (R169, R203). -/
def timeoutCode : Nat := 6

/-- PAYMENT_TIMEOUT (R166). -/
def execPaymentTimeout (s : State) : Host.Outcome State Fault Refusal :=
  match s.pay.monitor with
  | some m => .next (s.loseOutcome m timeoutCode .timeout)
  | none => .next s

end Sys2Proof.Machine
end

