-- ==== Sys2Proof/Machine/Dispatch.lean ====
section
/-! DEFINITION. One arm for each command: its meaning. -/

namespace Sys2Proof.Machine

/-- The effect of a command on everything but the queue of commands. -/
def exec (i : Instr) (s : State) : Host.Outcome State Fault Refusal :=
  match i with
  | .powerOn => Sys2Proof.Machine.execPowerOn s
  | .resetLineLow => Sys2Proof.Machine.execResetLineLow s
  | .resetLineHigh => Sys2Proof.Machine.execResetLineHigh s
  | .idleSymbol => Sys2Proof.Machine.execIdleSymbol s
  | .otherSymbolAligning decoded => Sys2Proof.Machine.execOtherSymbolAligning decoded s
  | .linkTimerExpiry => Sys2Proof.Machine.execLinkTimerExpiry s
  | .pauseSymbolReceived => Sys2Proof.Machine.execPauseSymbolReceived s
  | .resumeSymbolReceived => Sys2Proof.Machine.execResumeSymbolReceived s
  | .frameReceive bytes allDecoded => Sys2Proof.Machine.execFrameReceive bytes allDecoded s
  | .badHeaderFrame => Sys2Proof.Machine.execBadHeaderFrame s
  | .misroutedFrame => Sys2Proof.Machine.execMisroutedFrame s
  | .unknownRequest => Sys2Proof.Machine.execUnknownRequest s
  | .frameSendStart => Sys2Proof.Machine.execFrameSendStart s
  | .frameSendEnd => Sys2Proof.Machine.execFrameSendEnd s
  | .upstreamPlaceWaiting => Sys2Proof.Machine.execUpstreamPlaceWaiting s
  | .identifyPart => Sys2Proof.Machine.execIdentifyPart s
  | .configure => Sys2Proof.Machine.execConfigure s
  | .resetPart => Sys2Proof.Machine.execResetPart s
  | .readBank => Sys2Proof.Machine.execReadBank s
  | .clearBank => Sys2Proof.Machine.execClearBank s
  | .setBankMask => Sys2Proof.Machine.execSetBankMask s
  | .clearFault => Sys2Proof.Machine.execClearFault s
  | .openOrder => Sys2Proof.Machine.execOpenOrder s
  | .bindSlot => Sys2Proof.Machine.execBindSlot s
  | .unbindSlot => Sys2Proof.Machine.execUnbindSlot s
  | .cancelOrder => Sys2Proof.Machine.execCancelOrder s
  | .closeOrder => Sys2Proof.Machine.execCloseOrder s
  | .readOrder => Sys2Proof.Machine.execReadOrder s
  | .resolvePayment => Sys2Proof.Machine.execResolvePayment s
  | .growWindow => Sys2Proof.Machine.execGrowWindow s
  | .readPool => Sys2Proof.Machine.execReadPool s
  | .loadRules => Sys2Proof.Machine.execLoadRules s
  | .loadPrices => Sys2Proof.Machine.execLoadPrices s
  | .loadSlotProfile => Sys2Proof.Machine.execLoadSlotProfile s
  | .loadEngineProfile => Sys2Proof.Machine.execLoadEngineProfile s
  | .loadPaymentProfile => Sys2Proof.Machine.execLoadPaymentProfile s
  | .discardPending => Sys2Proof.Machine.execDiscardPending s
  | .readImage flips => Sys2Proof.Machine.execReadImage flips s
  | .commitTables => Sys2Proof.Machine.execCommitTables s
  | .submitItem => Sys2Proof.Machine.execSubmitItem s
  | .resumeItem => Sys2Proof.Machine.execResumeItem s
  | .withdrawItem => Sys2Proof.Machine.execWithdrawItem s
  | .readEngine => Sys2Proof.Machine.execReadEngine s
  | .bulkRead => Sys2Proof.Machine.execBulkRead s
  | .bulkWrite => Sys2Proof.Machine.execBulkWrite s
  | .bulkAccessComplete upsets => Sys2Proof.Machine.execBulkAccessComplete upsets s
  | .trainingSucceeded => Sys2Proof.Machine.execTrainingSucceeded s
  | .trainingFailed at_ => Sys2Proof.Machine.execTrainingFailed at_ s
  | .scrubStart => Sys2Proof.Machine.execScrubStart s
  | .scrubComplete clean => Sys2Proof.Machine.execScrubComplete clean s
  | .cardDetectChange slot present => Sys2Proof.Machine.execCardDetectChange slot present s
  | .cardInsertion slot locked => Sys2Proof.Machine.execCardInsertion slot locked s
  | .cardRemoval slot flips => Sys2Proof.Machine.execCardRemoval slot flips s
  | .cardIdentify flips => Sys2Proof.Machine.execCardIdentify flips s
  | .cardStatus flips => Sys2Proof.Machine.execCardStatus flips s
  | .cardReadToLink flips => Sys2Proof.Machine.execCardReadToLink flips s
  | .cardReadStaged flips => Sys2Proof.Machine.execCardReadStaged flips s
  | .cardWriteRequest locked flips => Sys2Proof.Machine.execCardWriteRequest locked flips s
  | .cardRaw locked flips => Sys2Proof.Machine.execCardRaw locked flips s
  | .writeDataFrame => Sys2Proof.Machine.execWriteDataFrame s
  | .busGrant => Sys2Proof.Machine.execBusGrant s
  | .cardCommandResponse answer locked flips => Sys2Proof.Machine.execCardCommandResponse answer locked flips s
  | .cardBlockReceived data checkOk flips => Sys2Proof.Machine.execCardBlockReceived data checkOk flips s
  | .cardCheckToken accepted flips => Sys2Proof.Machine.execCardCheckToken accepted flips s
  | .cardBusyRelease flips => Sys2Proof.Machine.execCardBusyRelease flips s
  | .cardResponseTimeout flips => Sys2Proof.Machine.execCardResponseTimeout flips s
  | .cardBlockTimeout flips => Sys2Proof.Machine.execCardBlockTimeout flips s
  | .identifyReadyTimeout flips => Sys2Proof.Machine.execIdentifyReadyTimeout flips s
  | .writeBufferDrain drain => Sys2Proof.Machine.execWriteBufferDrain drain s
  | .stagedReadComplete slot flips => Sys2Proof.Machine.execStagedReadComplete slot flips s
  | .schedulerSearch => Sys2Proof.Machine.execSchedulerSearch s
  | .queueHeadTake engine => Sys2Proof.Machine.execQueueHeadTake engine s
  | .engineSendStart engine => Sys2Proof.Machine.execEngineSendStart engine s
  | .engineSendDone engine => Sys2Proof.Machine.execEngineSendDone engine s
  | .engineMessageBegin engine => Sys2Proof.Machine.execEngineMessageBegin engine s
  | .engineMessageMalformed rx => Sys2Proof.Machine.execEngineMessageMalformed rx s
  | .credit engine bytes => Sys2Proof.Machine.execCredit engine bytes s
  | .bandReadEnd engine upsets => Sys2Proof.Machine.execBandReadEnd engine upsets s
  | .printed rx => Sys2Proof.Machine.execPrinted rx s
  | .fault engine bytes => Sys2Proof.Machine.execFault engine bytes s
  | .abandoned rx => Sys2Proof.Machine.execAbandoned rx s
  | .engineResponseTimeout engine => Sys2Proof.Machine.execEngineResponseTimeout engine s
  | .pageTimeout engine => Sys2Proof.Machine.execPageTimeout engine s
  | .engineIdleTimeout engine => Sys2Proof.Machine.execEngineIdleTimeout engine s
  | .engineStatusReport engine bytes => Sys2Proof.Machine.execEngineStatusReport engine bytes s
  | .engineTransitUp engine head body check flips => Sys2Proof.Machine.execEngineTransitUp engine head body check flips s
  | .engineTransitDown flips => Sys2Proof.Machine.execEngineTransitDown flips s
  | .paymentTransitDown left flips => Sys2Proof.Machine.execPaymentTransitDown left flips s
  | .paymentMessageSent => Sys2Proof.Machine.execPaymentMessageSent s
  | .paymentRxByte byte damaged => Sys2Proof.Machine.execPaymentRxByte byte damaged s
  | .framerTakeByte => Sys2Proof.Machine.execFramerTakeByte s
  | .interByteTimeout => Sys2Proof.Machine.execInterByteTimeout s
  | .resyncIdleGap => Sys2Proof.Machine.execResyncIdleGap s
  | .terminalMessageComplete flips => Sys2Proof.Machine.execTerminalMessageComplete flips s
  | .paymentTimeout => Sys2Proof.Machine.execPaymentTimeout s
  | .cardCommandSent flips => Sys2Proof.Machine.execCardCommandSent flips s
  | .frameGrowsPastLimit => Sys2Proof.Machine.execFrameGrowsPastLimit s

end Sys2Proof.Machine
end

