-- ==== Sys2Proof/Safety.lean ====
section
/-! DEFINITION. The terms claims are stated in: the take of a frame, and the invariants that every step keeps. -/

namespace Sys2Proof.Machine

/-! ## Takes -/

/-- The next frame that the part takes is f, its row is `row`, and s1 is the part with f out of the downstream buffer (R189, R190). -/
def State.Takes (s : State) (row : TakeRow) (f : DownFrame) (s1 : State) : Prop :=
  f.row = row ∧ ∃ rest, s.nextTake = some (f, rest) ∧ s1 = s.afterTake rest

/-- A frame joins the upstream queue with FIP as it stands, or is discarded while the link is not UP (R187, R192). -/
def State.Sent (s : State) (f : UpFrame) (t : State) : Prop :=
  t = if s.link.state = .up then
      { s with link := { s.link with upQueue := s.link.upQueue ++ [{ f with fip := s.fip }] } }
    else s

/-- The command of a management request, without flipped rule bits. -/
def MgmtReq.command : MgmtReq → Instr
  | .identifyPart => .identifyPart | .configure => .configure | .resetPart => .resetPart
  | .readBank => .readBank | .clearBank => .clearBank | .setBankMask => .setBankMask
  | .clearFault => .clearFault | .openOrder => .openOrder | .bindSlot => .bindSlot
  | .unbindSlot => .unbindSlot | .cancelOrder => .cancelOrder | .closeOrder => .closeOrder
  | .readOrder => .readOrder | .resolvePayment => .resolvePayment | .growWindow => .growWindow
  | .readPool => .readPool | .loadRules => .loadRules | .loadPrices => .loadPrices
  | .loadSlotProfile => .loadSlotProfile | .loadEngineProfile => .loadEngineProfile
  | .loadPaymentProfile => .loadPaymentProfile | .discardPending => .discardPending
  | .readImage => .readImage [] | .commitTables => .commitTables | .submitItem => .submitItem
  | .resumeItem => .resumeItem | .withdrawItem => .withdrawItem | .readEngine => .readEngine

/-! ## Invariants -/

/-- The DRAM is in its canonical form. -/
def DramCanonical (s : State) : Prop := Memory.wf s.smc.dram

/-- The buffers, FIFOs, credits and counts stay in their ranges (R130, R152, R153, R173, R176, R189, R199). -/
def CountsInRange (s : State) : Prop :=
  s.link.downBuf.length ≤ 8 ∧ s.link.notices.length ≤ 64 ∧ s.link.lost ≤ 65535
    ∧ (∀ b, (s.bank b).count ≤ 65535)
    ∧ s.pay.txBytes ≤ 256 ∧ s.pay.rx.length ≤ 256 ∧ ∀ e, (s.eng e).credits ≤ 4

/-- The frames of the upstream queue and the places reserved come to at most 16, and a link that is not UP has none (R192, R194). -/
def UpQueueBounded (s : State) : Prop :=
  s.link.upQueue.length + s.reserved ≤ 16
    ∧ (s.link.state ≠ .up → s.link.upQueue = [] ∧ s.link.waiting = [] ∧ s.link.sending = none)

/-- The lost class is present exactly while the pay state is UNKNOWN (R5); an order has a pending pay state exactly when the Payment Monitor is bound to it, the pending state is that of the pending class, the bound order is in use and not CLOSING, and a prior pay state is NONE or DECLINED (R158, R161). -/
def PaymentsAgree (s : State) : Prop :=
  (∀ n, (s.order n).pay.lost.isSome ↔ (s.order n).pay.state = .unknown)
    ∧ (∀ n, (s.order n).pay.state ∈ [.requested, .capturePending, .voidPending, .refundPending] ↔
        ∃ m, s.pay.monitor = some m ∧ m.order = n)
    ∧ ∀ m, s.pay.monitor = some m →
        (s.order m.order).live = true ∧ (s.order m.order).pay.state = m.cls.pending
          ∧ (m.prior = none ∨ m.prior = some .none_ ∨ m.prior = some .declined)

/-- A slot's binding and an order's binding name each other, and a bound order is OPEN, CANCELLING or CANCELLED (R10). -/
def BindingsAgree (s : State) : Prop :=
  (∀ x n, (s.slot x).bound = some n ↔ (s.order n).slot = some x)
    ∧ ∀ x n, (s.slot x).bound = some n → (s.order n).live = true

/-- The pages of all page maps, in order number and map order. -/
def mappedPages (s : State) : List Nat :=
  allOrders.flatMap (fun n => (s.order n).map.map (fun e => e.page))

/-- Every usable page is in exactly one of the free pool, the scrub queue, the retired set and the page map of one order once training has succeeded, and before that no page exists; a record that is FREE or CLOSING has an empty map; only a part that has trained is RUNNING with pages (R16, R26, R29, R34). -/
def PagesInOnePlace (s : State) : Prop :=
  (∀ n, (s.order n).state = .free ∨ (s.order n).state = .closing → (s.order n).map = [])
    ∧ (if s.smc.trained then
        (s.part = .running ∨ s.part = .halted)
          ∧ ∃ g, s.smc.geometry = some g
            ∧ (s.smc.freePool ++ s.smc.scrubQ.map (fun e => e.page) ++ s.smc.retired
                ++ mappedPages s).Perm (List.range g.usable)
      else
        s.smc.freePool = [] ∧ s.smc.scrubQ = [] ∧ s.smc.retired = []
          ∧ ∀ n, (s.order n).map = [])

/-- An item is QUEUED exactly when one engine queue refers to it and PRINTING exactly when it is the current item of one Band Streamer; a QUEUED item's order is OPEN, a PRINTING item's OPEN or CANCELLING, and a CANCELLING order has a PRINTING item; a current item is present exactly while a page is open; a queue holds at most 8 references (R14, R121, R122, R130). -/
def PrintPlaces (s : State) : Prop :=
  let held := (s.eng .one).queue ++ (s.eng .two).queue
  let current := (s.eng .one).item.toList ++ (s.eng .two).item.toList
  (held ++ current).Nodup
    ∧ (∀ r, r ∈ held ↔ ∃ it, (s.order r.order).items[r.item]? = some it ∧ it.state = .queued)
    ∧ (∀ r, r ∈ current ↔ ∃ it, (s.order r.order).items[r.item]? = some it ∧ it.state = .printing)
    ∧ (∀ r ∈ held, (s.order r.order).state = .open_)
    ∧ (∀ r ∈ current, (s.order r.order).state = .open_ ∨ (s.order r.order).state = .cancelling)
    ∧ (∀ n, (s.order n).state = .cancelling → ∃ r ∈ current, r.order = n)
    ∧ (∀ e, (s.eng e).item.isSome ↔ (s.eng e).state.hasPage = true)
    ∧ ∀ e, (s.eng e).queue.length ≤ 8

/-- What a part reset leaves, whatever took it (R22, R47, R57, R93, R108, R150, R171, R186, R198): every record FREE, no binding, no request, no context, the rule image and the payment monitor at their reset values, every map's pages handed back without attribution, the banks kept and FIP clear. -/
def ResetLeaves (s t : State) : Prop :=
  t.fip = false ∧ t.banks = s.banks
    ∧ (∀ n, t.order n = .blank) ∧ t.lastServed = 15
    ∧ (∀ x, t.ctx x = none) ∧ t.bus = .atReset
    ∧ (∀ x, ∃ d, t.slot x = .atReset (s.slot x).pin d)
    ∧ t.rules = .atReset ∧ t.pay = .atReset
    ∧ (∀ e, (t.eng e).state = .offline ∧ (t.eng e).item = none ∧ (t.eng e).queue = []
        ∧ (t.eng e).timer = none ∧ (t.eng e).lineBusy = (s.eng e).lineBusy
        ∧ (t.eng e).transit = (match (s.eng e).lineBusy with
            | some (.transit _ _) => (s.eng e).transit
            | _ => none)
        ∧ (t.eng e).lineWait =
            (if (s.eng e).state = .opening ∨ (s.eng e).state = .streaming then [.abandon] else []))
    ∧ t.smc.freePool = s.smc.freePool
    ∧ t.smc.scrubQ = (s.smc.scrubQ.map (fun e => { e with order := none }))
        ++ (allOrders.flatMap (fun n => cleanPages (s.order n).map)).map
            (fun p => { page := p, order := none })
    ∧ t.smc.retired = (allOrders.flatMap (fun n => badPages (s.order n).map)).foldl retire s.smc.retired
    ∧ t.smc.bulk = none ∧ t.smc.scrubbing = false
    ∧ t.smc.trained = s.smc.trained ∧ t.smc.linkTimeout = s.smc.linkTimeout
    ∧ t.smc.threshold = s.smc.threshold ∧ t.smc.dram = s.smc.dram
    ∧ t.smc.geometry = (if s.smc.trained then s.smc.geometry else none)
    ∧ t.link.downBuf = [] ∧ t.link.waiting = [] ∧ t.link.state = s.link.state
    ∧ t.link.timer = s.link.timer ∧ t.link.txHeld = s.link.txHeld

/-! ## Card requests and pages as they end -/

/-- The upstream queue takes k more frames: the link is UP, there is room, and no frame waits (R192). -/
def State.Accepts (s : State) (k : Nat) : Prop :=
  s.link.state = .up ∧ s.link.upQueue.length + s.reserved + k ≤ 16 ∧ s.link.waiting = []

/-- The answer of a card request goes on: its first frame was passed, or its classification now meets no bad entry and passes (R56, R88). -/
def State.AnswerGoes (s : State) (q : CardReq) : Prop :=
  s.part ≠ .halted
    ∧ (q.action = some true
      ∨ q.action = none ∧ ∃ v, s.classify q.gen (cardMsg true q.kind) = (s, v) ∧ v.passes = true)

/-- The command of a card request. -/
def CardKind.command (k : CardKind) (locked : Bool) (flips : List ParityFlip) : Instr :=
  match k with
  | .identify => .cardIdentify flips | .status => .cardStatus flips
  | .readLink => .cardReadToLink flips | .readStaged => .cardReadStaged flips
  | .write => .cardWriteRequest locked flips | .raw => .cardRaw locked flips

/-- The frames a request ends with: the blocks gathered and not yet sent, then the completion (R88, R89, R209). -/
def CardReq.lastFrames (q : CardReq) (st : CompletionStatus) (results : Bytes) : List (UpKind × Bytes) :=
  (if q.gathered = [] then [] else [(.data, q.gathered.flatten)])
    ++ [(.transit, b1 q.kind.code ++ b1 st.code ++ [0, 0] ++ results)]

/-- How far a request came, as a completion that is not DONE reports it (R209). -/
def CardReq.progress (q : CardReq) : Bytes :=
  match q.kind with
  | .identify | .status => []
  | .raw => [0]
  | .readLink | .readStaged | .write => toBytes 2 q.done

/-- The part after the request of slot x has ended with its frames: the bus is free, the slot is not BUSY, and its record is r otherwise (R72, R88, R187). -/
def State.cardEnded (s : State) (x : Slot) (tag : Word32) (frames : List (UpKind × Bytes)) (r : SlotRec) :
    State :=
  { s with
    slots := s.slots.set (slotNo x).val { r with request := none, staging := none },
    bus := { s.bus with grant := none },
    link := { s.link with upQueue := s.link.upQueue ++ frames.map (fun f =>
      { chan := 2 + (slotNo x).val, kind := f.1, order := orderByte (s.slot x).bound, fip := s.fip,
        tag := tag, payload := f.2 }) } }

/-- An error of a card request, captured by the CARD bank (R87, R174). -/
def State.cardError (s : State) (x : Slot) (k : CardKind) (c : Cause) (block : Option Nat) : State :=
  s.updBank .card (fun b => b.capture { unit := .slot x, op := .cardOp k, cause := c }
    (s.slot x).bound (block.map ErrAddr.cardBlock))

/-- The part after a request has ended by a timeout or a protocol fault: the error captured, the completion sent, the slot in ERROR with its SLOT_EVENT (R72, R75, R85 to R87, R112). -/
def State.cardFailed (s : State) (x : Slot) (q : CardReq) (c : Cause) (block : Option Nat)
    (st : CompletionStatus) : State :=
  let r := s.slot x
  let t := (s.cardError x q.kind c block).cardEnded x q.tag (q.lastFrames st q.progress)
    { r with base := some .error, capacity := none, addressing := none, buf := none, prefetch := none }
  if r.base = some .error then t
  else t.raise .slotEvent r.bound
    (b1 (slotNo x).val ++ [4] ++ [orderByte r.bound] ++ opt1 (r.lock.map (fun b => if b then 1 else 0)))

/-- Checks 4 to 11 of R76, all passed. -/
def State.CardChecksPass (s : State) (x : Slot) (k : CardKind) (a : Action) (locked : Bool)
    (q : CardFields) : Prop :=
  let r := s.slot x
  r.request = none
    ∧ (k = .identify ∨ k = .status → r.base ≠ none)
    ∧ (k = .raw → r.base = some .present ∨ r.base = some .ready)
    ∧ (k = .readLink ∨ k = .readStaged ∨ k = .write → r.base = some .ready
        ∧ ∃ cap, r.capacity = some cap ∧ q.start + q.count ≤ cap)
    ∧ (k ≠ .identify → k ≠ .status → r.bound ≠ none)
    ∧ (k = .write ∨ k = .raw ∨ a = .passPermit →
        ∃ n, r.bound = some n ∧ (s.order n).permits.cardWrite = true)
    ∧ (k = .write ∨ k = .raw → locked = false)
    ∧ (k = .readStaged → ∃ n, r.bound = some n ∧ (s.order n).state = .open_
        ∧ chainCheck (windowSize (s.order n).map) q.chain = none)

/-- The items of `gone` return to PENDING, and no other item and no other field of an order changes; the short-notice flag follows R119 (R121, R123, R127). -/
def State.EntriesReturn (s : State) (gone : List ItemRef) (t : State) : Prop :=
  (∀ q ∈ gone, (t.order q.order).items[q.item]? =
      ((s.order q.order).items[q.item]?).map (fun it => { it with state := .pending }))
    ∧ (∀ q : ItemRef, q ∉ gone →
        (t.order q.order).items[q.item]? = (s.order q.order).items[q.item]?)
    ∧ ∀ n, t.order n = { s.order n with
        items := (t.order n).items, shortArmed := (t.order n).shortArmed }

/-- The notices of the entries that return: after those of u, an ITEM_EVENT for each item of `gone`, PENDING, and nothing else of the link changes; where the notice queue has room for them all, they are what joins it (R123, R126). -/
def State.ReturnNotices (s u : State) (gone : List ItemRef) (t : State) : Prop :=
  t.link = { u.link with notices := t.link.notices, lost := t.link.lost }
    ∧ (gone = [] → t.link = u.link)
    ∧ ((∀ q ∈ gone, ((s.order q.order).items[q.item]?).isSome) →
      u.link.notices.length + gone.length ≤ 64 →
      ∃ events : List Notice,
        t.link = { u.link with notices := u.link.notices ++ events }
        ∧ events.map (fun n => (n.kind, n.order, n.fip, n.body.take 7)) =
          gone.map (fun q => (NoticeKind.itemEvent, some q.order, s.fip,
            [orderByte (some q.order)] ++ toBytes 4 (s.order q.order).tag.toNat ++ b1 q.item
              ++ b1 ItemState.pending.code)))

/-- The notices an engine's change raises: ENGINE_EVENT with the record g, then an ITEM_EVENT for each item of `gone` (R123, R126, R147). Their order is the model's choice (log 50). -/
def State.EngineNotices (s : State) (e : EngineNo) (g : Engine) (gone : List ItemRef) (t : State) :
    Prop :=
  s.ReturnNotices (s.raise .engineEvent none
    (b1 (engineNum e) ++ b1 g.state.code ++ flagByte g.ready ++ opt1 g.media
      ++ opt1 (g.lastFault.map causeCode))) gone t

/-- ENGINE_EVENT of engine e as a copy ends: the engine in state st with the last fault cause `last`, the item's order, index and copy, and the copy's outcome (R147). -/
def State.copyEnded (s : State) (e : EngineNo) (r : ItemRef) (st : EngineState)
    (last : Option FaultCause) (outcome : CopyOutcome) : State :=
  let g := s.eng e
  s.raise .engineEvent (some r.order)
    (b1 (engineNum e) ++ b1 st.code ++ flagByte g.ready ++ opt1 g.media ++ opt1 (last.map causeCode)
      ++ [orderByte (some r.order)] ++ b1 r.item ++ b1 (g.copy.getD 0) ++ outcome.bytes)

/-- ITEM_EVENT of item r as it' (R126): the order's tag, the item's index, state and counts, and the due and committed amounts after the event. -/
def State.itemEnded (s : State) (r : ItemRef) (it' : Item) : State :=
  let o : Order := { s.order r.order with items := (s.order r.order).items.set r.item it' }
  s.raise .itemEvent (some r.order)
    ([orderByte (some r.order)] ++ toBytes 4 o.tag.toNat ++ b1 r.item ++ b1 it'.state.code
      ++ b1 it'.delivered ++ toBytes 2 it'.wasted ++ toBytes 6 o.due ++ toBytes 6 o.committed)

/-- The page of engine e ends: the engine is in state st without an item, its item becomes it', a CANCELLING order without another PRINTING item becomes CANCELLED, and on FAULTED the queue's items return to PENDING, but not while the part is HALTED (R14, R123, R127, R140, R141, R143). ENGINE_EVENT with the copy's outcome and the last fault cause `last`, ITEM_EVENT and then those of the returned items are raised (R126, R147; their order is log 50), and nothing else of the link changes. -/
def State.PageEnds (s : State) (e : EngineNo) (r : ItemRef) (st : EngineState) (it' : Item)
    (outcome : CopyOutcome) (last : Option FaultCause) (t : State) : Prop :=
  let returns : Prop := st = .faulted ∧ s.part ≠ .halted
  t = { s with orders := t.orders, engines := t.engines, link := t.link }
    ∧ (t.eng e).state = st ∧ (t.eng e).item = none ∧ (t.eng e).credits = 0
    ∧ (t.eng e).media = (s.eng e).media ∧ (t.eng e).ready = (s.eng e).ready
    ∧ (t.eng e).lastFault = last
    ∧ (returns → s.ReturnNotices ((s.copyEnded e r st last outcome).itemEnded r it') (s.eng e).queue t)
    ∧ (¬ returns → t.link = ((s.copyEnded e r st last outcome).itemEnded r it').link)
    ∧ (t.eng e).lineWait = (s.eng e).lineWait ∧ (t.eng e).lineBusy = (s.eng e).lineBusy
    ∧ (st ≠ .idle → (t.eng e).timer = none)
    ∧ (st = .idle → (t.eng e).timer = some {
        kind := .response, length := (s.rules.active.engines.get (engineIdx e)).response,
        start := s.now })
    ∧ (returns → (t.eng e).queue = []) ∧ (¬ returns → (t.eng e).queue = (s.eng e).queue)
    ∧ (∀ d, d ≠ e → t.eng d = s.eng d)
    ∧ (t.order r.order).items[r.item]? = some it'
    ∧ (∀ q : ItemRef, q ≠ r → (returns → q ∉ (s.eng e).queue) →
        (t.order q.order).items[q.item]? = (s.order q.order).items[q.item]?)
    ∧ (∀ q ∈ (s.eng e).queue, q ≠ r → returns →
        (t.order q.order).items[q.item]? =
          ((s.order q.order).items[q.item]?).map (fun it => { it with state := .pending }))
    ∧ (∀ n, t.order n = { s.order n with
        state := (t.order n).state, items := (t.order n).items,
        shortArmed := (t.order n).shortArmed })
    ∧ (∀ n, n ≠ r.order ∨ (s.order n).state ≠ .cancelling → (t.order n).state = (s.order n).state)
    ∧ ((s.order r.order).state = .cancelling →
        (t.order r.order).state =
          if ((s.order r.order).items.set r.item it').any (fun it => it.state == .printing) then
            .cancelling else .cancelled)

end Sys2Proof.Machine
end

