-- ==== Sys2Proof/Certificates/Slice0/Obligations.lean ====
section
/-! DEFINITION. The statements for the provers. -/

open Sys2Proof Sys2Proof.Machine

/-! ## The step, reset, and what every step keeps -/

/-- A step carries out the command at the front of the queue on the state with the queue's rest. On an empty queue the step idles: one ms passes and nothing else changes (the model's choice, log 3). -/
def Obligations.StepRunsFrontCommandOrIdles : Prop :=
  (∀ (c : Instr) (rest : List Instr) (s : State),
    step { s with pending := c :: rest } = exec c { s with pending := rest })
  ∧ (∀ s : State, s.pending = [] → step s = .next { s with now := s.now + 1 })

/-- The values the spec gives the part after power-on (R1, R21, R46, R70, R71, R95, R128, R130, R152, R158, R186, R190 to R193, R199, R201): among them the whole reset rule image, in both images, and the whole engine records. That no frame waits for room (`link.waiting`) is the model's value, log 47. -/
def Obligations.ResetHoldsThePowerOnValues : Prop :=
  let s := State.reset
  s.part = .unconfigured ∧ s.fip = false
    ∧ s.link.state = .down ∧ s.link.timer = none ∧ s.link.rxPaused = false ∧ s.link.txHeld = false
    ∧ s.link.downBuf = [] ∧ s.link.upQueue = [] ∧ s.link.waiting = [] ∧ s.link.lost = 0
    ∧ s.link.notices = [{ kind := .partState, order := none, fip := false, body := [0] }]
    ∧ s.link.lastSupplier = .upstream
    ∧ (∀ n, (s.order n).state = .free) ∧ s.lastServed = 15
    ∧ s.smc.geometry = none ∧ s.smc.linkTimeout = 50 ∧ s.smc.threshold = 0
    ∧ s.smc.freePool = [] ∧ s.smc.scrubQ = [] ∧ s.smc.retired = [] ∧ s.smc.scrubbing = false
    ∧ s.rules.active.rules = []
    ∧ (∀ c, s.rules.active.prices.get c = { unit := 0, media := 0 })
    ∧ (∀ x, s.rules.active.slots.get (slotNo x) =
        { divider := 250, response := 250, block := 500, depth := 0 })
    ∧ (∀ e, s.rules.active.engines.get (engineIdx e) = { response := 10, page := 180 })
    ∧ s.rules.active.pay = {
        baud := 9600, framing := 0, lenOffset := 0, lenWidth := 1, lenAdjust := 0, startByte := 0x02,
        endByte := 0x03, trailing := 0, codeOffset := 1, codeWidth := 1, timeout := 120 }
    ∧ s.rules.pendingImg = s.rules.active
    ∧ s.rules.gen = 0 ∧ s.rules.valid = true ∧ s.rules.barrier = none ∧ (∀ p, s.portGen p = 0)
    ∧ (∀ x, (s.slot x).state = .empty ∧ (s.slot x).bound = none ∧ (s.slot x).capacity = none
        ∧ (s.slot x).addressing = none ∧ (s.slot x).lock = none ∧ (s.slot x).request = none
        ∧ (s.slot x).buf = none ∧ (s.slot x).prefetch = none ∧ (s.slot x).staging = none)
    ∧ (∀ x, s.ctx x = none) ∧ s.bus.grant = none ∧ s.bus.lastGranted = .d
    ∧ (∀ e, (s.eng e).state = .offline ∧ (s.eng e).ready = false ∧ (s.eng e).media = none
        ∧ (s.eng e).lastFault = none ∧ (s.eng e).item = none ∧ (s.eng e).copy = none
        ∧ (s.eng e).wasted = false ∧ (s.eng e).bandCount = 0 ∧ (s.eng e).nextBand = 0
        ∧ (s.eng e).credits = 0 ∧ (s.eng e).bandRead = none ∧ (s.eng e).timer = none
        ∧ (s.eng e).queue = [])
    ∧ s.pay.monitor = none ∧ s.pay.tx = [] ∧ s.pay.rx = [] ∧ s.pay.framer.mode = .waiting
    ∧ (∀ b, (s.bank b).record = none ∧ (s.bank b).count = 0 ∧ (s.bank b).mask = bankCauses b)

/-- The invariants of the model hold at reset. -/
def Obligations.InvariantsHoldAtReset : Prop :=
  DramCanonical .reset ∧ CountsInRange .reset ∧ UpQueueBounded .reset ∧ PaymentsAgree .reset
    ∧ BindingsAgree .reset ∧ PagesInOnePlace .reset ∧ PrintPlaces .reset

/-- Every step keeps the canonical form of the DRAM. -/
def Obligations.EveryStepKeepsDramCanonical : Prop :=
  ∀ s s' : State, DramCanonical s → step s = .next s' → DramCanonical s'

/-- Every step keeps the downstream buffer, the notice queue, the lost count and the corrected counts in their ranges. -/
def Obligations.EveryStepKeepsCountsInRange : Prop :=
  ∀ s s' : State, CountsInRange s → step s = .next s' → CountsInRange s'

/-- Every step keeps the upstream queue within its 16 places, and empty while the link is not UP. -/
def Obligations.EveryStepKeepsUpstreamQueueBounded : Prop :=
  ∀ s s' : State, UpQueueBounded s → step s = .next s' → UpQueueBounded s'

/-- Every step keeps the Payment Monitor and the pay states in agreement. -/
def Obligations.EveryStepKeepsPaymentsAgreed : Prop :=
  ∀ s s' : State, PaymentsAgree s → step s = .next s' → PaymentsAgree s'

/-- Every step keeps the two sides of every slot binding in agreement. -/
def Obligations.EveryStepKeepsBindingsAgreed : Prop :=
  ∀ s s' : State, BindingsAgree s → step s = .next s' → BindingsAgree s'

/-- Every step keeps every usable page in exactly one place. -/
def Obligations.EveryStepKeepsPagesInOnePlace : Prop :=
  ∀ s s' : State, PagesInOnePlace s → step s = .next s' → PagesInOnePlace s'

/-- Every step keeps the items, the engine queues and the pages that are open in agreement. -/
def Obligations.EveryStepKeepsPrintPlaces : Prop :=
  ∀ s s' : State, PrintPlaces s → step s = .next s' → PrintPlaces s'

/-- The frame parser reads back every frame from its bytes: header, payload and trailer. -/
def Obligations.ParseReadsBackEveryFrame : Prop :=
  ∀ f : DownFrame, f.fits = true → parseFrame f.wire = some f

/-! ## The Order Link -/

/-- A frame of the buffer may be taken while the link is not UP, or while the upstream queue has a place beyond those reserved and those owed to the frames that wait for room (R189, R192; that the places stay owed until UPSTREAM_PLACE_WAITING is log 11); a bulk request waits for the one in progress. The frame that a take removes is the first of the buffer that may be taken, the others keep their order, and the take touches nothing but the buffer and the receive pause state that follows its count. The receive pause state follows the held count: PAUSE at 6 while FLOWING, RESUME at 2 or below while PAUSED, nothing otherwise. -/
def Obligations.TakesFollowArrivalOrder : Prop :=
  (∀ (s : State) (f : DownFrame), s.mayTake f = true ↔
    (s.link.state = .up → s.link.upQueue.length + s.reserved + s.link.waiting.length < 16)
      ∧ (f.chan = 9 → s.smc.bulk = none))
  ∧ (∀ (s : State) (row : TakeRow) (f : DownFrame) (s1 : State), s.Takes row f s1 →
    ∃ before after, s.link.downBuf = before ++ f :: after
      ∧ s.mayTake f = true ∧ (∀ g ∈ before, s.mayTake g = false)
      ∧ s1.link.downBuf = before ++ after
      ∧ s1 = { s with link := { s.link with
          downBuf := before ++ after, rxPaused := s1.link.rxPaused, ctlOut := s1.link.ctlOut } })
  ∧ (∀ s : State,
      (s.link.rxPaused = false → 6 ≤ s.link.downBuf.length →
        s.followHeld = { s with link := { s.link with
          rxPaused := true, ctlOut := s.link.ctlOut ++ [.pause] } })
      ∧ (s.link.rxPaused = true → s.link.downBuf.length ≤ 2 →
        s.followHeld = { s with link := { s.link with
          rxPaused := false, ctlOut := s.link.ctlOut ++ [.resume] } })
      ∧ ((s.link.rxPaused = false ∧ s.link.downBuf.length < 6
            ∨ s.link.rxPaused = true ∧ 2 < s.link.downBuf.length) → s.followHeld = s))

/-- A frame that ends while the link is UP and the RESET line is high is handled in three steps: OVERRUN when 8 frames are held, FRAME_CRC when it is shorter than 12 bytes, undecoded in part or fails its CRC, otherwise it joins the buffer. A frame that grows past its limit is ended with FRAME_CRC, and what follows up to the next end-of-frame symbol is discarded. -/
def Obligations.FramesAreReceivedInThreeSteps : Prop :=
  (∀ (s : State) (bytes : Bytes) (ok : Bool),
    s.link.state = .up → s.link.discarding = false → s.resetLow = false → bytes.length ≤ 2060 →
    let s1 := { s with link := { s.link with timer := some s.now } }
    let caught := fun c : Cause => s1.updBank .link (fun b =>
      b.capture { unit := .link, op := .receive, cause := c } none none)
    (8 ≤ s.link.downBuf.length → exec (.frameReceive bytes ok) s = .next (caught .overrun))
    ∧ (s.link.downBuf.length < 8 →
        (ok = false ∨ bytes.length < 12
          ∨ beNat (bytes.drop (bytes.length - 4)) ≠ (crc32 (bytes.take (bytes.length - 4))).toNat) →
        exec (.frameReceive bytes ok) s = .next (caught .frameCrc))
    ∧ (∀ f : DownFrame, s.link.downBuf.length < 8 → ok = true → parseFrame bytes = some f →
        exec (.frameReceive bytes ok) s = .next
          ({ s1 with link := { s1.link with downBuf := s.link.downBuf ++ [f] } } : State).followHeld))
  ∧ (∀ s : State, s.link.state = .up → s.link.discarding = false → s.resetLow = false →
      let s1 := { s with link := { s.link with timer := some s.now } }
      let s2 := s1.updBank .link (fun b =>
        b.capture { unit := .link, op := .receive, cause := .frameCrc } none none)
      let t := { s2 with link := { s2.link with discarding := true } }
      exec .frameGrowsPastLimit s = .next t
        ∧ ∀ bytes ok, exec (.frameReceive bytes ok) t =
            .next { t with link := { t.link with discarding := false } })

/-- IDLE symbols bring the link from DOWN to ALIGNING and, at the 32nd in a row, to UP, where the part sends its receive pause symbol and the transmit pause state becomes FREE; any other symbol while ALIGNING makes the count 0. While the link is UP the host's PAUSE makes the transmit pause state HELD and its RESUME makes it FREE; while the link is DOWN neither does anything. -/
def Obligations.SymbolsMoveTheLink : Prop :=
  (∀ s : State,
    (s.link.state = .down → exec .idleSymbol s = .next
      { s with link := { s.link with state := .aligning, alignCount := 1, timer := some s.now } })
    ∧ (s.link.state = .aligning → s.link.alignCount + 1 < 32 → exec .idleSymbol s = .next
      { s with link := { s.link with alignCount := s.link.alignCount + 1, timer := some s.now } })
    ∧ (s.link.state = .aligning → 32 ≤ s.link.alignCount + 1 → exec .idleSymbol s = .next
      { s with link := { s.link with
        state := .up, alignCount := s.link.alignCount + 1, timer := some s.now, txHeld := false,
        ctlOut := s.link.ctlOut ++ [if s.link.rxPaused then .pause else .resume] } })
    ∧ (s.link.state = .up → exec .idleSymbol s = .next
      { s with link := { s.link with timer := some s.now } })
    ∧ (s.link.state = .aligning → ∀ decoded, exec (.otherSymbolAligning decoded) s = .next
      { s with link := { s.link with
        alignCount := 0, timer := if decoded then some s.now else s.link.timer } }))
  ∧ (∀ s : State,
      (s.link.state = .up →
        exec .pauseSymbolReceived s =
          .next { s with link := { s.link with txHeld := true, timer := some s.now } }
        ∧ exec .resumeSymbolReceived s =
          .next { s with link := { s.link with txHeld := false, timer := some s.now } })
      ∧ (s.link.state = .down →
        exec .pauseSymbolReceived s = .next s ∧ exec .resumeSymbolReceived s = .next s))

/-- The link timer's expiry takes the link DOWN: the frame being sent, the upstream queue and the waiting frames are gone and the transmit pause state is FREE; the buffer, the notices, the orders, the staging memory, the banks and the payment FIFOs stay, and the engines but for a transit message that waited. At each slot a READ to link that waits and a WRITE that collects are dropped, a READ to link on the bus is dropped or, while a block is read or awaited (log 57), marked to stop after it, and every other request, and every context, stays; then the blocks whose frames waited go on. The card's stop command is no stage of its own (the model's choice, log 67). -/
def Obligations.LinkLossEmptiesTheUpstreamSide : Prop :=
  ∀ s : State, s.link.state ≠ .down → ∃ t, exec .linkTimerExpiry s = .next t
    ∧ t.link.state = .down ∧ t.link.timer = none ∧ t.link.sending = none ∧ t.link.upQueue = []
    ∧ t.link.waiting = [] ∧ t.link.txHeld = false
    ∧ t.link.downBuf = s.link.downBuf ∧ (s.link.notices <+: t.link.notices)
    ∧ t.part = s.part ∧ t.fip = s.fip ∧ t.orders = s.orders ∧ t.smc = s.smc ∧ t.banks = s.banks
    ∧ t.pay.monitor = s.pay.monitor ∧ t.pay.tx = s.pay.tx ∧ t.pay.rx = s.pay.rx
    ∧ (∀ e, t.eng e = { s.eng e with
        upHeld := (s.eng e).upHeld && !s.link.waiting.any (fun w => w.owner == .engineUp e) })
    ∧ ∃ u : State, t = (s.link.waiting.foldl (fun acc w => acc.continueAfter w.owner) u).settle
      ∧ ((∀ x q, (s.slot x).request = some q → q.kind = .readLink → s.ctx x = none) →
        u = { s with
            link := { s.link with
              state := .down, timer := none, discarding := false, sending := none, upQueue := [],
              waiting := [], txHeld := false },
            slots := u.slots, bus := u.bus }
        ∧ u.bus.lastGranted = s.bus.lastGranted
        ∧ (∀ x,
          let r := s.slot x
          let dropped := { r with request := none, staging := none }
          (r.request = none → u.slot x = r)
          ∧ ∀ q, r.request = some q →
            (q.finish ≠ none → u.slot x = r)
            ∧ (q.kind ≠ .readLink → ¬ (q.kind = .write ∧ q.phase = .collecting) → u.slot x = r)
            ∧ (q.finish = none → q.kind = .write → q.phase = .collecting → u.slot x = dropped)
            ∧ (q.finish = none → q.kind = .readLink → q.phase ≠ .onBus → u.slot x = dropped)
            ∧ (∀ g, q.finish = none → q.kind = .readLink → q.phase = .onBus →
              s.bus.grant = some g → g.slot = x → g.prefetch = false →
              (g.stage = .reading → u.slot x = r
                ∧ u.bus.grant = some { g with stop := some (g.stop.getD .linkDown) })
              ∧ (g.stage ≠ .reading → u.slot x = dropped ∧ u.bus.grant = none)))
        ∧ ((∀ g q, s.bus.grant = some g → (s.slot g.slot).request = some q →
            g.prefetch = true ∨ q.finish ≠ none ∨ q.kind ≠ .readLink ∨ q.phase ≠ .onBus) →
          u.bus = s.bus))

/-- The transmitter starts the head frame of a queue when the link is UP, FREE and sends nothing: the only queue that holds one, or of two the one that did not supply the last frame; a notice takes the lost count as it stands. A frame that has been sent whole leaves its queue, which becomes the last supplier; after a notice the lost count is 0. It does so while the RESET line is low too (the model's choice, log 77). -/
def Obligations.TransmitterTakesQueuesInTurn : Prop :=
  (∀ s : State, s.link.state = .up → s.link.txHeld = false → s.link.sending = none →
    (∀ f, s.link.upQueue.head? = some f → (s.link.notices = [] ∨ s.link.lastSupplier = .notices) →
      exec .frameSendStart s = .next
        { s with link := { s.link with sending := some { source := .upstream, wire := f.wire } } })
    ∧ (∀ n, s.link.notices.head? = some n →
        (s.link.upQueue = [] ∨ s.link.lastSupplier = .upstream) →
      exec .frameSendStart s = .next
        { s with link := { s.link with
          sending := some { source := .notices, wire := (n.frame s.link.lost).wire } } }))
  ∧ (∀ (s : State) (wire : Bytes),
      (s.link.sending = some { source := .upstream, wire := wire } →
        exec .frameSendEnd s = .next { s with link := { s.link with
          upQueue := s.link.upQueue.tail, sending := none, lastSupplier := .upstream } })
      ∧ (s.link.sending = some { source := .notices, wire := wire } →
        exec .frameSendEnd s = .next { s with link := { s.link with
          notices := s.link.notices.tail, lost := 0, sending := none, lastSupplier := .notices } }))

/-- A frame for the upstream queue joins it with FIP as it stands, or is discarded while the link is not UP; a device frame that finds no room waits, and behind one that already waits it waits although the queue has room (the model's reading, log 11); a RESPONSE carries the channel, order and tag of its request, the request's code, the status and the results. The frame that has waited longest takes the place that is free, and its block continues. A notice joins the tail of its queue, with FIP as it stands, or is counted as lost when the queue holds 64. -/
def Obligations.FramesAndNoticesJoinTheirQueues : Prop :=
  (∀ (s : State),
    (∀ f, s.Sent f (s.place f))
    ∧ (∀ (w : Waiter) f, s.link.state ≠ .up → s.offer w f = (s, true))
    ∧ (∀ (w : Waiter) f, s.link.state = .up → s.room = true → s.link.waiting = [] →
        s.offer w f = (s.place f, true))
    ∧ (∀ (w : Waiter) f, s.link.state = .up → (s.room = false ∨ s.link.waiting ≠ []) →
        s.offer w f = ({ s with link := { s.link with
          waiting := s.link.waiting ++ [{ owner := w, frame := f }] } }, false))
    ∧ (∀ (r : MgmtReq) (f : DownFrame) st results,
        s.Sent { chan := f.chan, kind := .response, order := f.order, fip := s.fip, tag := f.tag,
                 payload := toBytes 2 r.code ++ b1 st.code ++ results }
          (s.answer r f st results)))
  ∧ (∀ (s : State) (w : WaitFrame) (rest : List WaitFrame), s.link.waiting = w :: rest → s.room = true →
      exec .upstreamPlaceWaiting s = .next
        ((({ s with link := { s.link with waiting := rest } } : State).place w.frame).continueAfter
          w.owner).settle)
  ∧ (∀ (s : State) (k : NoticeKind) (o : Option OrderNo) (body : Bytes),
      (s.link.notices.length < 64 → s.raise k o body = { s with link := { s.link with
        notices := s.link.notices ++ [{ kind := k, order := o, fip := s.fip, body := body }] } })
      ∧ (64 ≤ s.link.notices.length → s.raise k o body =
        { s with link := { s.link with lost := min 65535 (s.link.lost + 1) } }))

/-- A frame with a bad header is answered BAD_FRAME and reported as BAD_HEADER; a frame misrouted by kind and channel, and a request of no known name, is answered BAD_REQUEST; a misrouted frame on BULK too, in every part state (log 15), and a payload without a code is answered with a free value for it (log 12). -/
def Obligations.UnusableFramesAreAnswered : Prop :=
  ∀ (s : State) (f : DownFrame) (s1 : State),
    (s.Takes .badHeader f s1 → exec .badHeaderFrame s = .next
      ((s1.updBank .link (fun b =>
          b.capture { unit := .link, op := .receive, cause := .badHeader } none none)).place
        { chan := if f.chan > 9 then 0 else f.chan, kind := .refusal, order := f.order, fip := s1.fip,
          tag := f.tag, payload := [1] }))
    ∧ (s.Takes .misrouted f s1 →
      exec .misroutedFrame s = .next
        (s1.place { chan := f.chan, kind := .refusal, order := f.order, fip := s1.fip,
                    tag := f.tag, payload := [2] }))
    ∧ (∀ c0 c1 more, s.Takes .unknown f s1 → f.chan = 0 → f.payload = c0 :: c1 :: more →
      exec .unknownRequest s = .next
        (s1.place { chan := 0, kind := .response, order := f.order, fip := s1.fip,
                    tag := f.tag, payload := [c0, c1, 2] }))
    ∧ (s.Takes .unknown f s1 → f.chan = 0 → f.payload.length < 2 →
      exec .unknownRequest s = .next
        (({ s1 with free := s1.free + 1 } : State).place
          { chan := 0, kind := .response, order := f.order, fip := s1.fip, tag := f.tag,
            payload := toBytes 2 (Config.missingCode s1.free).toNat ++ [2] }))
    ∧ (∀ x, s.Takes .unknown f s1 → f.chan = slotChannel x → s1.part = .running →
        s1.collecting x = false →
      exec .unknownRequest s = .next
        (s1.place { chan := f.chan, kind := .refusal, order := f.order, fip := s1.fip,
                    tag := f.tag, payload := [2] }))

/-! ## The part: dispatch, resets, training, the error banks -/

/-- The part states that refuse a management request, and what each answers: the table of R195. -/
def Obligations.PartStateGatesManagementRequests : Prop :=
  ∀ (s : State) (r : MgmtReq) (f : DownFrame) (s1 : State), s.Takes (.mgmt r) f s1 →
    let answers := fun st : Status => exec r.command s = .next (s1.answer r f st [])
    (r ∈ [.clearBank, .setBankMask, .clearFault] →
      (s1.part = .training → answers .notReady) ∧ (s1.part = .halted → answers .halted))
    ∧ (r = .configure →
      (s1.part = .training → answers .notReady) ∧ (s1.part = .running → answers .busy)
        ∧ (s1.part = .halted → answers .halted))
    ∧ (r ∈ [.readOrder, .readPool, .readEngine, .readImage] →
      (s1.part = .unconfigured ∨ s1.part = .training → answers .notReady))
    ∧ (r ∉ [.identifyPart, .readBank, .resetPart, .clearBank, .setBankMask, .clearFault, .configure,
            .readOrder, .readPool, .readEngine, .readImage] →
      (s1.part = .unconfigured ∨ s1.part = .training → answers .notReady)
        ∧ (s1.part = .halted → answers .halted))

/-- IDENTIFY_PART, READ_POOL, READ_ORDER, READ_IMAGE and READ_ENGINE answer with what they name as it stands, in the order of their rules (the layouts that the manual leaves to R203 are log 14, the ports not yet switched log 63, the code of the barrier state log 70, the remaining time log 39), and change nothing else. -/
def Obligations.ReportRequestsAnswerAndChangeNothing : Prop :=
  (∀ (s : State) (f : DownFrame) (s1 : State), s.Takes (.mgmt .identifyPart) f s1 → f.fields = [] →
    let g := s1.smc.geometry
    exec .identifyPart s = .next (s1.answer .identifyPart f .ok
      (Config.partIdentifier ++ b1 (Config.revisionLessOne.val + 1) ++ b1 s1.part.code
        ++ flagByte s1.fip ++ optWide (g.map (fun x => toBytes 2 x.size))
        ++ opt1 (g.map (fun x => if x.ecc then 1 else 0)) ++ opt1 (g.map (fun x => x.grade - 1))
        ++ toBytes 2 (if s1.smc.trained then (g.map Geometry.usable).getD 0 else 0)
        ++ toBytes 2 s1.smc.linkTimeout ++ toBytes 2 s1.smc.threshold
        ++ toBytes 2 s1.rules.gen ++ flagByte s1.rules.valid ++ toBytes 2 s1.link.lost)))
  ∧ (∀ (s : State) (f : DownFrame) (s1 : State), s.Takes (.mgmt .readPool) f s1 → f.fields = [] →
      s1.part = .running ∨ s1.part = .halted →
      exec .readPool s = .next (s1.answer .readPool f .ok
        (toBytes 2 s1.smc.freePool.length ++ toBytes 2 s1.smc.scrubQ.length
          ++ toBytes 2 s1.smc.retired.length
          ++ toBytes 2 (if s1.smc.trained then (s1.smc.geometry.map Geometry.usable).getD 0 else 0)
          ++ toBytes 2 s1.smc.threshold)))
  ∧ (∀ (s : State) (f : DownFrame) (s1 : State) (n : OrderNo),
      s.Takes (.mgmt .readOrder) f s1 → s1.part = .running ∨ s1.part = .halted → f.fields = [] →
      orderOfByte f.order = some n →
      let o := s1.order n
      (o.state = .free →
        exec .readOrder s = .next (s1.answer .readOrder f .ok [orderByte (some n), 0]))
      ∧ (o.state ≠ .free → exec .readOrder s = .next (s1.answer .readOrder f .ok
        ([orderByte (some n)] ++ toBytes 4 o.tag.toNat ++ b1 o.state.code ++ o.permits.byte
          ++ opt1 (o.slot.map (fun x => (slotNo x).val))
          ++ toBytes 2 o.map.length ++ toBytes 2 o.awaiting
          ++ listBytes (o.items.mapIdx Item.record)
          ++ toBytes 6 o.due ++ toBytes 6 o.committed
          ++ b1 o.pay.state.code ++ toBytes 6 o.pay.authorised ++ toBytes 6 o.pay.captured
          ++ toBytes 6 o.pay.refunded ++ opt1 (o.pay.lost.map PayClass.code)
          ++ optWide (o.faultRec.map (fun r => r.code.bytes ++ toBytes 4 r.offset))))))
  ∧ (∀ (s : State) (f : DownFrame) (s1 : State) (name : ImageName) (part : ImagePart),
      s.Takes (.mgmt .readImage) f s1 → s1.part = .running ∨ s1.part = .halted →
      f.fields = b1 (if name = .active then 0 else 1) ++ (match part with
        | .rules first count => b1 0 ++ b1 first ++ b1 count
        | .prices => b1 1
        | .slot x => b1 2 ++ b1 (slotNo x).val
        | .engine e => b1 3 ++ b1 (engineNum e)
        | .pay => b1 4) →
      (∀ first count, part = .rules first count → first < 256 ∧ 1 ≤ count ∧ count ≤ 64) →
      let im := if name = .active then s1.rules.active else s1.rules.pendingImg
      exec (.readImage []) s = .next (s1.answer .readImage f .ok
        ((match part with
          | .rules first count =>
            listBytes (((im.rules.drop first).take count).map (RuleEntry.readBytes name))
          | .prices => listBytes (im.prices.toList.map Price.bytes)
          | .slot x => (im.slots.get (slotNo x)).bytes
          | .engine e => (im.engines.get (engineIdx e)).bytes
          | .pay => im.pay.bytes)
          ++ b1 s1.rules.pendingImg.rules.length ++ toBytes 2 s1.rules.gen ++ flagByte s1.rules.valid
          ++ (match s1.rules.barrier with
              | some b => b1 1 ++ listBytes ((allPorts.filter (fun p => !b.switched.contains p)).map
                  (fun p => b1 p.code))
              | none => [0]))))
  ∧ (∀ (s : State) (f : DownFrame) (s1 : State) (e : EngineNo), s.Takes (.mgmt .readEngine) f s1 →
      s1.part = .running ∨ s1.part = .halted → f.fields = b1 (engineNum e) →
      let g := s1.eng e
      exec .readEngine s = .next (s1.answer .readEngine f .ok
        (b1 g.state.code ++ flagByte g.ready ++ opt1 g.media ++ opt1 (g.lastFault.map causeCode)
          ++ (match g.item with
              | some r => [1, orderByte (some r.order)] ++ b1 r.item
              | none => [0])
          ++ opt1 g.copy ++ (if g.wasted then [0] else [0xFF])
          ++ toBytes 2 g.bandCount ++ toBytes 2 g.nextBand ++ b1 g.credits
          ++ timerBytes g.timer s1.now ++ toBytes 2 (s1.portGen (.enginePort e))
          ++ listBytes (g.queue.map (fun r => [orderByte (some r.order)] ++ b1 r.item)))))

/-- POWER_ON leaves every block at its reset values (those the spec does not give are logs 4, 5 and 47); the queue of commands, the time, the counter of free values and the card-detect inputs are the outside world's (the model's reading, log 4), and a card that shows starts its debounce (R73, R201). RESET_PART and the RESET line perform the same part reset; RESET_PART is answered OK first, both keep the frames of the upstream queue that carry no device traffic, while the line is low the part state keeps its value (the model's choice, log 40), and on leaving the reset the part is RUNNING when training had succeeded and UNCONFIGURED otherwise, with its notice. -/
def Obligations.ResetsReturnEveryBlock : Prop :=
  (∀ s : State, exec .powerOn s = .next
    { State.reset with
      pending := s.pending, now := s.now, free := s.free,
      slots := s.slots.map (fun r => .atReset r.pin (if r.pin then .running s.now else .idle)) })
  ∧ ((∀ (s : State) (f : DownFrame) (s1 : State), s.Takes (.mgmt .resetPart) f s1 → f.fields = [] →
      ∃ t, exec .resetPart s = .next (t.raise .partState none (b1 t.part.code))
        ∧ ResetLeaves s1 t ∧ t.part = (if s1.smc.trained then .running else .unconfigured)
        ∧ t.link.upQueue = (s1.answer .resetPart f .ok []).link.upQueue.filter (fun g => !g.kind.isDevice)
        ∧ t.link.notices = s1.link.notices ∧ t.link.lost = s1.link.lost
        ∧ ∀ x, (t.slot x).debounce = if (s1.slot x).pin then .running s1.now else .idle)
    ∧ (∀ s : State, s.resetLow = false →
      ∃ t, exec .resetLineLow s = .next t ∧ ResetLeaves s t ∧ t.resetLow = true ∧ t.part = s.part
        ∧ t.link.upQueue = s.link.upQueue.filter (fun g => !g.kind.isDevice)
        ∧ t.link.notices = s.link.notices ∧ t.link.lost = s.link.lost
        ∧ (∀ x, (t.slot x).debounce = .idle)
        ∧ (∀ bytes ok, s.link.state = .up → exec (.frameReceive bytes ok) t =
            .next { t with link := { t.link with timer := some t.now, discarding := false } }))
    ∧ (∀ s : State, s.resetLow = true →
      exec .resetLineHigh s = .next
        (({ s with
            resetLow := false, part := if s.smc.trained then .running else .unconfigured,
            slots := s.slots.map (fun r =>
              .atReset r.pin (if r.pin then .running s.now else .idle)) } : State).raise
          .partState none (b1 (if s.smc.trained then PartState.running else .unconfigured).code))))

/-- CONFIGURE in UNCONFIGURED with its five fields in range records them, answers OK with TRAINING and begins training; any other payload is refused BAD_REQUEST. Training that succeeds puts every usable page in the scrub queue and the part in RUNNING with its notice. Training that fails forgets the geometry and reports TRAINING_FAILED: the part is UNCONFIGURED with its notice, or HALTED when the error is enabled and FIP was set. The model's choices: the DRAM and its check data stay as they were when training succeeds (log 54), and the geometry stays forgotten where the error halts the part (log 41). -/
def Obligations.TrainingConfiguresTheDram : Prop :=
  (∀ (s : State) (f : DownFrame) (s1 : State), s.Takes (.mgmt .configure) f s1 →
    s1.part = .unconfigured →
    (∀ z0 z1 e g l0 l1 t0 t1, f.fields = [z0, z1, e, g, l0, l1, t0, t1] →
      beNat [z0, z1] ∈ [256, 512, 1024] → e.toNat < 2 → g.toNat < 3 →
      1 ≤ beNat [l0, l1] → beNat [l0, l1] ≤ 1000 → beNat [t0, t1] ≤ 16384 →
      exec .configure s = .next (({ s1 with
        part := .training,
        smc := { s1.smc with
          geometry := some { size := beNat [z0, z1], ecc := e.toNat == 1, grade := g.toNat + 1 },
          linkTimeout := beNat [l0, l1], threshold := beNat [t0, t1] } } : State).answer
        .configure f .ok [1]))
    ∧ ((∀ z0 z1 e g l0 l1 t0 t1, f.fields = [z0, z1, e, g, l0, l1, t0, t1] →
        beNat [z0, z1] ∉ [256, 512, 1024] ∨ 2 ≤ e.toNat ∨ 3 ≤ g.toNat
          ∨ beNat [l0, l1] < 1 ∨ 1000 < beNat [l0, l1] ∨ 16384 < beNat [t0, t1]) →
      exec .configure s = .next (s1.answer .configure f .badRequest [])))
  ∧ (∀ (s : State) (g : Geometry), s.part = .training → s.resetLow = false → s.smc.geometry = some g →
      exec .trainingSucceeded s = .next (({ s with
        part := .running,
        smc := { s.smc with
          trained := true, freePool := [], scrubbing := false, retired := [],
          scrubQ := (List.range (if g.ecc then g.size * 8 else g.size * 16)).map
            (fun p => { page := p, order := none }) } } : State).raise .partState none [2]))
  ∧ (∀ (s : State) (w : TrainStep), s.part = .training → s.resetLow = false →
      let code : ErrCode := { unit := .smc, op := .train w, cause := .trainingFailed }
      let s1 := ({ s with smc := { s.smc with geometry := none } } : State).updBank .staging
        (fun b => b.capture code none none)
      let enabled := (s.bank .staging).mask.getLsbD 3
      (enabled = false → exec (.trainingFailed w) s = .next
        (({ s1 with part := .unconfigured } : State).raise .partState none [0]))
      ∧ (enabled = true → s.fip = false → exec (.trainingFailed w) s = .next
        (({ ({ s1 with fip := true } : State).raise .fault none ([2] ++ code.bytes ++ [0xFF]) with
            part := .unconfigured } : State).raise .partState none [0]))
      ∧ (enabled = true → s.fip = true → ∃ t, exec (.trainingFailed w) s = .next t
        ∧ t.part = .halted ∧ t.fip = true ∧ t.smc = { s.smc with geometry := none }))

/-- The capture table: an empty record takes the error; a VALID one sets OVERFLOW, an uncorrected record stays, a corrected one gives way to an uncorrected error and, when it was captured disabled, to an enabled one. A reported error is captured by its bank alone; a corrected one raises the count, up to 65535, and an uncorrected one does not. -/
def Obligations.BankCapturePolicy : Prop :=
  (∀ (s : State) (c : ErrCode) (o : Option OrderNo) (a : Option ErrAddr),
    let b := s.bank c.cause.bank
    let new : ErrRec :=
      { overflow := false, uncorrected := c.cause.uncorrected,
        enabled := b.mask.getLsbD c.cause.idx, order := o, addr := a, code := c }
    let after := ((s.report c o a).bank c.cause.bank).record
    (b.record = none → after = some new)
    ∧ (∀ old, b.record = some old → old.uncorrected = true →
        after = some { old with overflow := true })
    ∧ (∀ old, b.record = some old → old.uncorrected = false → new.uncorrected = true →
        after = some { new with overflow := true })
    ∧ (∀ old, b.record = some old → old.uncorrected = false → new.uncorrected = false →
        old.enabled = false → new.enabled = true → after = some { new with overflow := true })
    ∧ (∀ old, b.record = some old → old.uncorrected = false → new.uncorrected = false →
        (old.enabled = true ∨ new.enabled = false) → after = some { old with overflow := true }))
  ∧ (∀ (s : State) (c : ErrCode) (o : Option OrderNo) (a : Option ErrAddr),
      ((s.report c o a).bank c.cause.bank).count =
          (if c.cause.uncorrected then (s.bank c.cause.bank).count
           else min 65535 ((s.bank c.cause.bank).count + 1))
        ∧ ∀ b, b ≠ c.cause.bank → (s.report c o a).bank b = s.bank b)

/-- An enabled uncorrected error sets FIP and raises a FAULT notice when FIP was clear, halts a part in TRAINING or RUNNING when FIP was set, and does nothing more to a HALTED part; a disabled one never touches FIP. -/
def Obligations.UncorrectedErrorsActOnFip : Prop :=
  ∀ (s : State) (c : ErrCode) (o : Option OrderNo) (a : Option ErrAddr), c.cause.uncorrected = true →
    let s1 := s.updBank c.cause.bank (fun b => b.capture c o a)
    let enabled := (s.bank c.cause.bank).mask.getLsbD c.cause.idx
    (enabled = false → s.report c o a = s1)
    ∧ (enabled = true → s.part ≠ .halted → s.fip = false → s.report c o a =
        ({ s1 with fip := true } : State).raise .fault o
          (b1 (bankNo c.cause.bank).val ++ c.bytes ++ [orderByte o]))
    ∧ (enabled = true → s.part = .training ∨ s.part = .running → s.fip = true →
        (s.report c o a).part = .halted ∧ (s.report c o a).fip = true)
    ∧ (s.part = .halted → s.report c o a = s1)

/-- At the entry to HALTED the part state changes with its notice, no frame with device traffic stays in the upstream queue or waits for room, and the block of a frame that waited goes on; the transmit FIFO is emptied, open pages are abandoned and pages in CLOSING are marked wasted, no host transit message waits for an engine line any more, only the one being sent stays in flight, and whatever else waits there keeps waiting but for the BANDs of an abandoned page (that the others stay is the model's choice, log 32); every prefetch and its buffer is discarded, a request that collects or waits is dropped, one on the bus stops at its boundary (while the next block is awaited, after it: log 57; a command in progress is finished: log 20) or at once, and a staged read's card part ends STOPPED (one whose card part had ended already keeps its cause and drains on: the model's choice, log 75); of an order nothing changes but copies wasted; staging memory, banks and FIP stay. The card's stop command is no stage of its own (the model's choice, log 67). -/
def Obligations.EntryToHaltedStopsDeviceTraffic : Prop :=
  ∀ s : State, s.part ≠ .halted →
    let t := s.enterHalted
    t.part = .halted ∧ t.fip = s.fip ∧ t.smc = s.smc ∧ t.banks = s.banks
      ∧ (∀ f ∈ t.link.upQueue, f.kind ≠ .transit ∧ f.kind ≠ .data)
      ∧ (s.link.notices.length < 64 →
          s.link.notices ++ [{ kind := .partState, order := none, fip := s.fip, body := [3] }]
            <+: t.link.notices)
      ∧ t.pay.tx = [] ∧ t.pay.monitor = s.pay.monitor
      ∧ (∀ e, ((s.eng e).state = .opening ∨ (s.eng e).state = .streaming →
            (t.eng e).state = .abandoning ∧ (t.eng e).wasted = true)
          ∧ ((s.eng e).state = .closing → (t.eng e).state = .closing ∧ (t.eng e).wasted = true)
          ∧ (t.eng e).queue = (s.eng e).queue
          ∧ ((s.eng e).state ∈ [.offline, .idle, .abandoning, .faulted] →
              t.eng e = { s.eng e with
                upHeld := (t.eng e).upHeld, lineWait := (t.eng e).lineWait,
                transit := (t.eng e).transit })
          ∧ (t.eng e).lineBusy = (s.eng e).lineBusy
          ∧ (t.eng e).lineWait =
              (let stays := (s.eng e).lineWait.filter (fun m => !m.isTransit)
              if (s.eng e).state = .opening ∨ (s.eng e).state = .streaming then
                stays.filter (fun m => !m.isBand) ++ [.abandon]
              else stays)
          ∧ ((∃ code body, (s.eng e).lineBusy = some (.transit code body)) →
              (t.eng e).transit = (s.eng e).transit)
          ∧ ((∀ code body, (s.eng e).lineBusy ≠ some (.transit code body)) →
              (t.eng e).transit = none)
          ∧ (t.eng e).upHeld
              = ((s.eng e).upHeld && !s.link.waiting.any (fun w => w.owner == .engineUp e)))
      ∧ (∀ n, (t.order n).state = (s.order n).state ∧ (t.order n).pay = (s.order n).pay
          ∧ (t.order n).map = (s.order n).map ∧ (t.order n).slot = (s.order n).slot
          ∧ t.order n = { s.order n with items := (t.order n).items }
          ∧ (t.order n).items.map (fun it => { it with wasted := 0 })
              = (s.order n).items.map (fun it => { it with wasted := 0 })
          ∧ ∀ i, (∀ e, (s.eng e).item ≠ some { order := n, item := i }) →
              (t.order n).items[i]? = (s.order n).items[i]?)
      ∧ (∀ w ∈ t.link.waiting, w.owner = .commit)
      ∧ (∀ x, (t.slot x).buf = none ∧ (t.slot x).prefetch = none
          ∧ (t.slot x).bound = (s.slot x).bound)
      ∧ (∀ w ∈ s.link.waiting, ∀ x,
          (∀ q, w.owner = .cardDone x → (s.slot x).request = some q → q.finish ≠ none →
            (t.slot x).request = none)
          ∧ (w.owner = .stagedDone x → s.ctx x ≠ none →
            t.ctx x = none ∧ (t.slot x).request = none))
      ∧ ((∀ w ∈ s.link.waiting, w.owner = .commit) →
        t.rules = s.rules ∧ t.pay = { s.pay with tx := [] } ∧ t.link.waiting = s.link.waiting
        ∧ t.bus.lastGranted = s.bus.lastGranted
        ∧ (s.bus.grant = none → t.bus.grant = none)
        ∧ (∀ g, s.bus.grant = some g → g.prefetch = true →
          (g.stage = .reading → t.bus.grant = some { g with stop := some .discard })
          ∧ (g.stage ≠ .reading → t.bus.grant = none))
        ∧ ∀ x,
          let r := s.slot x
          let bare := { r with buf := none, prefetch := none }
          let dropped := { bare with request := none, staging := none }
          (r.request = none → t.slot x = bare ∧ t.ctx x = s.ctx x)
          ∧ ∀ q, r.request = some q →
            (q.finish ≠ none → t.slot x = bare ∧ t.ctx x = s.ctx x)
            ∧ (q.finish = none → q.phase ≠ .onBus → t.slot x = dropped ∧ t.ctx x = none)
            ∧ (q.finish = none → q.phase = .onBus →
              (∀ g, s.bus.grant = some g → g.slot = x → g.prefetch = true) →
              t.slot x = bare ∧ t.ctx x = s.ctx x)
            ∧ (∀ g, q.finish = none → q.phase = .onBus → s.bus.grant = some g → g.slot = x →
              g.prefetch = false →
              let finishes := g.stage ∈ [.reading, .writing, .busyHold]
                ∨ (∃ c, g.stage = .sending c ∨ g.stage = .awaiting c)
                  ∧ q.kind ∈ [.identify, .status, .raw]
              (finishes → t.slot x = bare ∧ t.ctx x = s.ctx x
                ∧ t.bus.grant = some { g with stop := some .halt })
              ∧ (¬ finishes → t.bus.grant = none
                ∧ (s.ctx x = none → t.slot x = dropped ∧ t.ctx x = none)
                ∧ (∀ c, s.ctx x = some c → t.slot x = bare
                  ∧ t.ctx x = some { c with cause := some .stopped, moved := [] }))))

/-- READ_BANK answers with the record, the mask, the count, FIP and the part state, and changes nothing else; CLEAR_BANK answers with the record it clears; SET_BANK_MASK answers with the mask it replaces; CLEAR_FAULT answers with the FIP it clears. The layout of the results, the record's bytes and those of an absent record among them, is the model's reading of R203 (log 14). -/
def Obligations.BankRequestsActOnOneBank : Prop :=
  ∀ (s : State) (f : DownFrame) (s1 : State),
    (∀ k, s.Takes (.mgmt .readBank) f s1 → f.fields = b1 (bankNo k).val →
      exec .readBank s = .next (s1.answer .readBank f .ok
        (recordBytes (s1.bank k).record ++ b1 (s1.bank k).mask.toNat ++ toBytes 2 (s1.bank k).count
          ++ flagByte s1.fip ++ b1 s1.part.code)))
    ∧ (∀ k z, s.Takes (.mgmt .clearBank) f s1 → s1.part = .unconfigured ∨ s1.part = .running →
        f.fields = b1 (bankNo k).val ++ flagByte z →
        exec .clearBank s = .next ((s1.updBank k (fun b =>
          { b with record := none, count := if z then 0 else b.count })).answer .clearBank f .ok
            (recordBytes (s1.bank k).record)))
    ∧ (∀ k m, s.Takes (.mgmt .setBankMask) f s1 → s1.part = .unconfigured ∨ s1.part = .running →
        f.fields = b1 (bankNo k).val ++ [m] →
        (m &&& ~~~ bankCauses k = 0 → exec .setBankMask s =
          .next ((s1.updBank k (fun b => { b with mask := m })).answer .setBankMask f .ok
            (b1 (s1.bank k).mask.toNat)))
        ∧ (m &&& ~~~ bankCauses k ≠ 0 → exec .setBankMask s =
          .next (s1.answer .setBankMask f .badRequest [])))
    ∧ (s.Takes (.mgmt .clearFault) f s1 → s1.part = .unconfigured ∨ s1.part = .running →
        f.fields = [] →
        exec .clearFault s = .next
          (({ s1 with fip := false } : State).answer .clearFault f .ok (flagByte s1.fip)))

/-! ## Staging memory, windows and bulk access -/

/-- The scrubber takes the head of the scrub queue and, at the end, zeroes the page and moves it to the free pool, or to the retired set with a SCRUB_VERIFY error; a page without attribution changes no order. A page that leaves the scrub queue lowers its order's pages awaiting scrub by one, and at 0 a CLOSING order becomes FREE with ORDER_RELEASED carrying its number and tag. The values of a record that is FREE, which the released order takes, are the model's choice (log 47). -/
def Obligations.ScrubReleasesPagesAndOrders : Prop :=
  (∀ (s : State) (e : ScrubEntry) (rest : List ScrubEntry),
    s.smc.trained = true → s.resetLow = false → (s.part = .running ∨ s.part = .halted) →
    s.smc.scrubQ = e :: rest →
    (s.smc.scrubbing = false →
      exec .scrubStart s = .next { s with smc := { s.smc with scrubbing := true } })
    ∧ (s.smc.scrubbing = true → ∀ clean, ∃ t : State,
      exec (.scrubComplete clean) s = .next (t.pageLeft e.order)
      ∧ t = { s with smc := t.smc, banks := t.banks }
      ∧ t.smc.scrubQ = rest ∧ t.smc.scrubbing = false
      ∧ t.smc.freePool = (if clean then s.smc.freePool ++ [e.page] else s.smc.freePool)
      ∧ t.smc.retired = (if clean then s.smc.retired else retire s.smc.retired e.page)
      ∧ t.banks = (if clean then s.banks else (s.updBank .staging (fun b =>
          b.capture { unit := .smc, op := .scrub, cause := .scrubVerify } none
            (some (.page e.page)))).banks)
      ∧ (∀ a, e.page * 65536 ≤ a → a < e.page * 65536 + 65536 → t.smc.dram.read a = 0)
      ∧ (∀ a, a < e.page * 65536 ∨ e.page * 65536 + 65536 ≤ a →
          t.smc.dram.read a = s.smc.dram.read a)))
  ∧ (∀ (s : State) (n : OrderNo),
      s.pageLeft none = s
      ∧ ((s.order n).state ≠ .closing ∨ (s.order n).awaiting ≠ 1 ∧ (s.order n).awaiting ≠ 0 →
          s.pageLeft (some n) = ({ s with
            orders := s.orders.set n.val
              ({ s.order n with awaiting := (s.order n).awaiting - 1 } : Order) } : State))
      ∧ ((s.order n).state = .closing → (s.order n).awaiting = 1 →
          s.pageLeft (some n) =
            ({ s with orders := s.orders.set n.val .blank } : State).raise .orderReleased (some n)
              ([orderByte (some n)] ++ toBytes 4 (s.order n).tag.toNat)))

/-- GROW_WINDOW: the window limit and the pool are tested in that order, and on acceptance the pages at the head of the free pool join the end of the map, clear, with POOL_LOW when the free count falls below the threshold. -/
def Obligations.GrowWindowTakesPagesFromThePool : Prop :=
  ∀ (s : State) (f : DownFrame) (s1 : State) (n : OrderNo) (k0 k1 : Byte),
    s.Takes (.mgmt .growWindow) f s1 → s1.part = .running → f.fields = [k0, k1] →
    orderOfByte f.order = some n → (s1.order n).state = .open_ →
    let k := beNat [k0, k1]
    let o := s1.order n
    let o1 : Order := { o with
      map := o.map ++ (s1.smc.freePool.take k).map (fun p => { page := p, poisoned := false }) }
    let t : State := { s1 with
      orders := s1.orders.set n.val o1,
      smc := { s1.smc with freePool := s1.smc.freePool.drop k } }
    let free := s1.smc.freePool.length
    (k = 0 ∨ 2048 < k → exec .growWindow s = .next (s1.answer .growWindow f .badRequest []))
    ∧ (1 ≤ k → k ≤ 2048 → 2048 < o.map.length + k →
        exec .growWindow s = .next (s1.answer .growWindow f .windowLimit []))
    ∧ (1 ≤ k → o.map.length + k ≤ 2048 → free < k →
        exec .growWindow s = .next (s1.answer .growWindow f .poolEmpty []))
    ∧ (1 ≤ k → o.map.length + k ≤ 2048 → k ≤ free →
        (s1.smc.threshold ≤ free ∧ free - k < s1.smc.threshold → exec .growWindow s =
          .next ((t.raise .poolLow none (toBytes 2 (free - k) ++ toBytes 2 s1.smc.threshold)).answer
            .growWindow f .ok (toBytes 2 (o.map.length + k))))
        ∧ (free < s1.smc.threshold ∨ s1.smc.threshold ≤ free - k → exec .growWindow s =
          .next (t.answer .growWindow f .ok (toBytes 2 (o.map.length + k)))))

/-- A bulk request is checked for part state, payload, order, order state and window in that order; one that passes begins to be carried out with nothing answered yet. -/
def Obligations.BulkRequestsAreChecked : Prop :=
  ∀ (s : State) (f : DownFrame) (s1 : State) (read : Bool) (o0 o1 o2 o3 : Byte) (more : Bytes),
    s.Takes (if read then .bulkRead else .bulkWrite) f s1 → f.fields = o0 :: o1 :: o2 :: o3 :: more →
    let code := toBytes 2 (if read then 0x50 else 0x51)
    let run := exec (if read then .bulkRead else .bulkWrite) s
    let len := if read then beNat more else more.length
    let refused := fun st : Status => run = .next (s1.place
      { chan := f.chan, kind := .response, order := f.order, fip := s1.fip, tag := f.tag,
        payload := code ++ b1 st.code })
    (read = true → more.length = 2) →
    (s1.part = .unconfigured ∨ s1.part = .training → refused .notReady)
    ∧ (s1.part = .halted → refused .halted)
    ∧ (s1.part = .running → len < 1 ∨ (if read then 2045 else 2042) < len → refused .badRequest)
    ∧ (s1.part = .running → 1 ≤ len → len ≤ (if read then 2045 else 2042) →
        (orderOfByte f.order = none → refused .noOrder)
        ∧ ∀ n, orderOfByte f.order = some n →
          ((s1.order n).state = .free → refused .noOrder)
          ∧ ((s1.order n).state = .closing → refused .orderState)
          ∧ ((s1.order n).live = true →
            (windowSize (s1.order n).map < beNat [o0, o1, o2, o3] + len → refused .outOfWindow)
            ∧ (beNat [o0, o1, o2, o3] + len ≤ windowSize (s1.order n).map →
              run = .next ({ s1 with smc := { s1.smc with bulk := some ({
                tag := f.tag, order := n, offset := beNat [o0, o1, o2, o3],
                kind := if read then .read len else .write more, result := none } : BulkReq) } } : State))))

/-- A bulk read of pages without poison or bit errors answers OK with the bytes of the window, each from the address its offset translates to, and changes nothing else but the request. -/
def Obligations.BulkReadReturnsTheWindowBytes : Prop :=
  ∀ (s : State) (b : BulkReq) (len : Nat), s.smc.bulk = some b → b.kind = .read len → b.result = none →
    let map := (s.order b.order).map
    b.offset + len ≤ windowSize map → (∀ e ∈ map, e.poisoned = false ∧ s.hasPage e.page = true) →
    s.smc.ecc = [] →
    ∃ bytes : Bytes, bytes.length = len
      ∧ (∀ i, i < len → ∃ a, translate map (b.offset + i) = some a
          ∧ bytes[i]? = some (s.smc.dram.read a))
      ∧ exec (.bulkAccessComplete []) s = .next
          ((({ s with smc := { s.smc with bulk := none } } : State).place
            { chan := 9, kind := .response, order := orderByte (some b.order), fip := s.fip,
              tag := b.tag, payload := [0x00, 0x50, 0] ++ bytes }).settle)

/-- A bulk write puts each byte at the address its offset translates to, leaves every other byte of the DRAM as it was, and answers OK with the number of its pages that are poisoned. -/
def Obligations.BulkWriteStoresTheBytes : Prop :=
  ∀ (s : State) (b : BulkReq) (data : Bytes), s.smc.bulk = some b → b.kind = .write data →
    b.result = none →
    let map := (s.order b.order).map
    b.offset + data.length ≤ windowSize map → (∀ e ∈ map, s.hasPage e.page = true) →
    (map.map (fun e => e.page)).Nodup → s.smc.ecc = [] →
    ∃ t : State,
      t = { s with smc := { s.smc with dram := t.smc.dram, bulk := none } }
      ∧ (∀ i a, i < data.length → translate map (b.offset + i) = some a →
          some (t.smc.dram.read a) = data[i]?)
      ∧ (∀ a, (∀ i, i < data.length → translate map (b.offset + i) ≠ some a) →
          t.smc.dram.read a = s.smc.dram.read a)
      ∧ exec (.bulkAccessComplete []) s = .next
          ((t.place
            { chan := 9, kind := .response, order := orderByte (some b.order), fip := s.fip,
              tag := b.tag,
              payload := [0x00, 0x51, 0] ++ b1 (s.poisonedPages b.order b.offset data.length) }).settle)

/-- With ECC ON, a bulk read that meets two bits in error in a word of a clean page poisons the map entry, sets the fault record when it is absent, captures ECC_UNCORRECTED and answers DATA_POISONED without data. -/
def Obligations.UncorrectedReadPoisonsThePage : Prop :=
  ∀ (s : State) (b : BulkReq) (len off : Nat) (e : MapEntry), s.smc.bulk = some b →
    b.kind = .read len → b.result = none → s.eccOn = true → s.smc.ecc = [] →
    let n := b.order
    let map := (s.order n).map
    b.offset + len ≤ windowSize map → b.offset ≤ off → off < b.offset + len →
    (∀ x ∈ map, x.poisoned = false ∧ s.hasPage x.page = true) →
    (map.map (fun x => x.page)).Nodup → map[off / 65536]? = some e →
    let word := off / 4 * 4
    let code : ErrCode := { unit := .smc, op := .bulkRead, cause := .eccUncorrected }
    ∃ t, exec (.bulkAccessComplete [{ offset := off, err := .double }]) s = .next t
      ∧ (t.order n).map = map.set (off / 65536) { e with poisoned := true }
      ∧ (t.order n).faultRec = some ((s.order n).faultRec.getD { code := code, offset := word })
      ∧ t.bank .staging = (s.bank .staging).capture code (some n) (some (.window word e.page))
      ∧ t.smc.dram = s.smc.dram ∧ t.smc.bulk = none
      ∧ (s.link.state = .up → ∃ g ∈ t.link.upQueue,
          g.chan = 9 ∧ g.kind = .response ∧ g.tag = b.tag ∧ g.payload = [0x00, 0x50, 23])

/-! ## Orders -/

/-- The due amount is the sum over all items of unit price times copies delivered. The committed amount adds the copies remaining of QUEUED and PRINTING items, so it is never less than the due amount and equals it when no item is QUEUED or PRINTING. -/
def Obligations.OrderAmountsAreDerived : Prop :=
  (∀ o : Order, o.due = (o.items.map (fun it => it.price * it.delivered)).sum
    ∧ (o.items = [] → o.due = 0))
  ∧ (∀ o : Order,
      o.committed = (o.items.map (fun it => it.price * (it.delivered
        + (if it.state = .queued ∨ it.state = .printing then it.copies - it.delivered else 0)))).sum
      ∧ o.due ≤ o.committed
      ∧ ((∀ it ∈ o.items, it.state ≠ .queued ∧ it.state ≠ .printing) → o.committed = o.due))

/-- OPEN_ORDER opens the lowest-numbered FREE record with the tag and permits of its payload and every other field as OPEN_ORDER sets it, and answers with its number; with no FREE record it is refused ORDER_TABLE_FULL. -/
def Obligations.OpenOrderTakesTheLowestFreeRecord : Prop :=
  ∀ (s : State) (f : DownFrame) (s1 : State) (t0 t1 t2 t3 p : Byte),
    s.Takes (.mgmt .openOrder) f s1 → s1.part = .running → f.fields = [t0, t1, t2, t3, p] →
    p.toNat < 8 →
    (∀ n, (s1.order n).state = .free → (∀ m, m < n → (s1.order m).state ≠ .free) →
      exec .openOrder s = .next (({ s1 with
        orders := s1.orders.set n.val
          ({ state := .open_, tag := BitVec.ofNat 32 (beNat [t0, t1, t2, t3]),
             permits := { cardWrite := p.getLsbD 0, engineService := p.getLsbD 1,
                          paymentRefund := p.getLsbD 2 },
             slot := none, map := [], awaiting := 0, items := [],
             pay := { state := .none_, authorised := 0, captured := 0, refunded := 0, lost := none },
             faultRec := none, shortArmed := true } : Order) } : State).answer .openOrder f .ok
        [orderByte (some n)]))
    ∧ ((∀ n, (s1.order n).state ≠ .free) →
      exec .openOrder s = .next (s1.answer .openOrder f .orderTableFull []))

/-- BIND_SLOT binds both sides when the order is OPEN and unbound and the slot is unbound and not EMPTY; ORDER_STATE is answered before SLOT_STATE. UNBIND_SLOT unbinds both sides and discards the prefetch buffer, unless the order has no slot or the slot is BUSY. -/
def Obligations.SlotBindingChangesBothSides : Prop :=
  ∀ (s : State) (f : DownFrame) (s1 : State) (n : OrderNo) (x : Slot), orderOfByte f.order = some n →
    s1.part = .running →
    let o := s1.order n
    (s.Takes (.mgmt .bindSlot) f s1 → f.fields = b1 (slotNo x).val → o.state ≠ .free →
      (o.state ≠ .open_ ∨ o.slot.isSome → exec .bindSlot s =
        .next (s1.answer .bindSlot f .orderState []))
      ∧ (o.state = .open_ → o.slot = none → (s1.slot x).bound.isSome ∨ (s1.slot x).base = none →
        exec .bindSlot s = .next (s1.answer .bindSlot f .slotState []))
      ∧ (o.state = .open_ → o.slot = none → (s1.slot x).bound = none → (s1.slot x).base ≠ none →
        exec .bindSlot s = .next
          (({ s1 with
              orders := s1.orders.set n.val ({ o with slot := some x } : Order),
              slots := s1.slots.set (slotNo x).val ({ s1.slot x with bound := some n } : SlotRec) } :
            State).answer .bindSlot f .ok [])))
    ∧ (s.Takes (.mgmt .unbindSlot) f s1 → f.fields = [] → o.live = true →
      (o.slot = none → exec .unbindSlot s = .next (s1.answer .unbindSlot f .notBound []))
      ∧ (o.slot = some x → (s1.slot x).request.isSome →
        exec .unbindSlot s = .next (s1.answer .unbindSlot f .busy []))
      ∧ (o.slot = some x → (s1.slot x).bound = some n → (s1.slot x).request = none →
        ∃ t : State, exec .unbindSlot s = .next (t.answer .unbindSlot f .ok (b1 (slotNo x).val))
          ∧ t = { s1 with orders := t.orders, slots := t.slots, bus := t.bus }
          ∧ t.orders = s1.orders.set n.val ({ o with slot := none } : Order)
          ∧ t.slot x = { s1.slot x with bound := none, buf := none, prefetch := none }
          ∧ ∀ y, y ≠ x → t.slot y = s1.slot y))

/-- CANCEL_ORDER of an OPEN order withdraws every PENDING, HELD and QUEUED item, takes the order's references out of both engine queues, and makes the order CANCELLED, or CANCELLING while an item is PRINTING; a page of the order that is OPENING or STREAMING is abandoned. A CANCELLING or CANCELLED order is answered without a change, and a CLOSING one is refused. -/
def Obligations.CancelOrderEndsPrinting : Prop :=
  ∀ (s : State) (f : DownFrame) (s1 : State) (n : OrderNo),
    s.Takes (.mgmt .cancelOrder) f s1 → s1.part = .running → f.fields = [] →
    orderOfByte f.order = some n →
    let o := s1.order n
    let after : OrderState := if o.hasPrinting then .cancelling else .cancelled
    (o.state = .open_ → ∃ t : State,
      exec .cancelOrder s = .next (t.answer .cancelOrder f .ok
        (b1 after.code ++ b1 (o.items.filter Item.withdrawable).length))
      ∧ t = { s1 with orders := t.orders, engines := t.engines }
      ∧ (t.order n).state = after
      ∧ ((t.order n).items.map (fun it => { it with wasted := 0 }) = o.items.map (fun it : Item =>
          { it with wasted := 0, state := if it.withdrawable then .withdrawn else it.state }))
      ∧ (t.order n).slot = o.slot ∧ (t.order n).map = o.map ∧ (t.order n).pay = o.pay
      ∧ (t.order n).faultRec = o.faultRec ∧ (∀ m, m ≠ n → t.order m = s1.order m)
      ∧ (∀ e, (t.eng e).queue = (s1.eng e).queue.filter (fun r => r.order != n))
      ∧ ∀ e r, (s1.eng e).item = some r → r.order = n →
          (s1.eng e).state = .opening ∨ (s1.eng e).state = .streaming →
          (t.eng e).state = .abandoning)
    ∧ (o.state = .cancelling ∨ o.state = .cancelled →
        exec .cancelOrder s = .next (s1.answer .cancelOrder f .ok (b1 o.state.code ++ b1 0)))
    ∧ (o.state = .closing → exec .cancelOrder s = .next (s1.answer .cancelOrder f .orderState []))

/-- The settlement test: UNSETTLED while an item is QUEUED or PRINTING or the pay state is not NONE, DECLINED, CAPTURED or VOIDED, then BUSY while the bound slot is BUSY; a refused CLOSE_ORDER changes nothing. A CLOSE_ORDER that passes withdraws the PENDING and HELD items, unbinds the slot, sends the clean pages in map order to the scrub queue with the order's number and the poisoned ones to the retired set, empties the map and makes the order CLOSING with its pages awaiting scrub. A context of the order that drains after a removal drops what is not written: a block of which a piece was written counts as delivered, the others leave the blocks received (R105); a band read left to end reads nothing of it (the model's choice, log 34). An order without clean pages is FREE at once; the values of its record then are the model's choice (log 47). -/
def Obligations.CloseOrderSettlesAndScrubs : Prop :=
  (∀ (s : State) (f : DownFrame) (s1 : State) (n : OrderNo),
    s.Takes (.mgmt .closeOrder) f s1 → s1.part = .running → f.fields = [] →
    orderOfByte f.order = some n → (s1.order n).live = true →
    let o := s1.order n
    ((∃ it ∈ o.items, it.state = .queued ∨ it.state = .printing)
        ∨ o.pay.state ∉ [.none_, .declined, .captured, .voided] →
      exec .closeOrder s = .next (s1.answer .closeOrder f .unsettled []))
    ∧ (∀ x, (∀ it ∈ o.items, it.state ≠ .queued ∧ it.state ≠ .printing) →
      o.pay.state ∈ [.none_, .declined, .captured, .voided] → o.slot = some x →
      (s1.slot x).request.isSome →
      exec .closeOrder s = .next (s1.answer .closeOrder f .busy [])))
  ∧ (∀ (s : State) (f : DownFrame) (s1 : State) (n : OrderNo),
      s.Takes (.mgmt .closeOrder) f s1 → s1.part = .running → f.fields = [] →
      orderOfByte f.order = some n →
      let o := s1.order n
      o.state = .open_ ∨ o.state = .cancelled →
      (∀ it ∈ o.items, it.state ≠ .queued ∧ it.state ≠ .printing) →
      o.pay.state ∈ [.none_, .declined, .captured, .voided] →
      (∀ x, o.slot = some x → (s1.slot x).request = none ∧ (s1.slot x).bound = some n) →
      (∀ b, s1.smc.bulk = some b → b.order ≠ n) →
      let clean := (o.map.filter (fun e => !e.poisoned)).map (fun e => e.page)
      let bad := (o.map.filter (fun e => e.poisoned)).map (fun e => e.page)
      ∃ t : State,
        t.smc = { s1.smc with
          scrubQ := s1.smc.scrubQ ++ clean.map (fun p => { page := p, order := some n }),
          retired := bad.foldl retire s1.smc.retired }
        ∧ (∀ m, m ≠ n → t.order m = s1.order m)
        ∧ (∀ x, o.slot = some x → (t.slot x).bound = none ∧ (t.slot x).buf = none)
        ∧ (∀ e, t.eng e = { s1.eng e with
            stale := (s1.eng e).stale.map (fun st => { st with lost := st.lost || st.order == n }) })
        ∧ t.pay = s1.pay ∧ t.banks = s1.banks ∧ t.part = s1.part
        ∧ (∀ y, s1.ctx y = none → t.ctx y = none)
        ∧ (∀ y c, s1.ctx y = some c →
          (c.order ≠ n → t.ctx y = some c)
          ∧ (c.order = n → c.placed = 0 → t.ctx y = some { c with
              buffer := [], moved := [], received := c.received - c.buffer.length })
          ∧ (∀ block rest, c.order = n → c.placed ≠ 0 → c.buffer = block :: rest →
            t.ctx y = some { c with
              buffer := [], moved := [], placed := 0, received := c.received - rest.length,
              delivered := c.delivered + 1,
              written := c.written + (((pieces c.chain (c.delivered * 512) block).take c.placed).map
                (fun p => p.2.length)).sum }))
        ∧ (clean ≠ [] →
          t.order n = { o with
            items := o.items.map Item.withdraw, slot := none, map := [], awaiting := clean.length,
            state := .closing, shortArmed := (t.order n).shortArmed }
          ∧ t.link = s1.link
          ∧ exec .closeOrder s = .next (t.answer .closeOrder f .ok
              ([4] ++ toBytes 2 clean.length ++ toBytes 2 bad.length)).settle)
        ∧ (clean = [] →
          t.order n = .blank ∧ t.link = s1.link
          ∧ exec .closeOrder s = .next (((t.raise .orderReleased (some n)
              ([orderByte (some n)] ++ toBytes 4 o.tag.toNat)).answer .closeOrder f .ok
                ([0] ++ toBytes 2 0 ++ toBytes 2 bad.length)).settle)))

/-- RESOLVE_PAYMENT of an UNKNOWN order gives the pay state and amounts of the row of R167 for its lost class and target, where the row's condition holds, and refuses RESOLVE_INVALID otherwise; an order that is not UNKNOWN is refused PAY_STATE, and a target or an amount out of range BAD_REQUEST. That an amount out of range is refused for the targets that ignore it too is the model's choice (log 64). -/
def Obligations.ResolvePaymentFollowsItsTable : Prop :=
  ∀ (s : State) (f : DownFrame) (s1 : State) (n : OrderNo) (k : Byte) (amount : Nat),
    s.Takes (.mgmt .resolvePayment) f s1 → s1.part = .running → amount < 281474976710656 →
    f.fields = k :: toBytes 6 amount →
    orderOfByte f.order = some n → (s1.order n).live = true →
    let o := s1.order n
    let becomes := fun p : PayRec => ∃ t : State,
      exec .resolvePayment s = .next (t.answer .resolvePayment f .ok
        (b1 p.state.code ++ toBytes 6 p.authorised ++ toBytes 6 p.captured ++ toBytes 6 p.refunded))
      ∧ t = { s1 with orders := t.orders } ∧ (∀ m, m ≠ n → t.order m = s1.order m)
      ∧ t.order n = { o with pay := p, shortArmed := (t.order n).shortArmed }
    let refused := fun st : Status => exec .resolvePayment s = .next (s1.answer .resolvePayment f st [])
    let p : PayRec := { o.pay with lost := none }
    (6 ≤ k.toNat ∨ 999999999999 < amount → refused .badRequest)
    ∧ (k.toNat < 6 → amount ≤ 999999999999 →
    (o.pay.state ≠ .unknown → refused .payState)
    ∧ (o.pay.state = .unknown → o.pay.lost = some .authorise →
      (k = 0 → if o.committed = 0 then becomes { p with state := .none_ } else refused .resolveInvalid)
      ∧ (k = 1 → becomes { p with state := .declined })
      ∧ (k = 2 → if o.committed ≤ amount then becomes { p with state := .authorised, authorised := amount }
          else refused .resolveInvalid)
      ∧ (3 ≤ k.toNat → refused .resolveInvalid))
    ∧ (o.pay.state = .unknown → o.pay.lost = some .capture →
      (k = 2 → becomes { p with state := .authorised })
      ∧ (k = 3 → if amount ≤ o.pay.authorised ∧ amount ≤ o.due then
            becomes { p with state := .captured, captured := amount }
          else refused .resolveInvalid)
      ∧ (k ≠ 2 → k ≠ 3 → refused .resolveInvalid))
    ∧ (o.pay.state = .unknown → o.pay.lost = some .void_ →
      (k = 2 → becomes { p with state := .authorised })
      ∧ (k = 4 → if ∀ it ∈ o.items, it.delivered = 0 then
            becomes { p with state := .voided, authorised := 0 }
          else refused .resolveInvalid)
      ∧ (k ≠ 2 → k ≠ 4 → refused .resolveInvalid))
    ∧ (o.pay.state = .unknown → o.pay.lost = some .refund →
      (k = 3 → becomes { p with state := .captured })
      ∧ (k = 5 → if o.pay.refunded + amount ≤ o.pay.captured then
            becomes { p with state := .captured, refunded := o.pay.refunded + amount }
          else refused .resolveInvalid)
      ∧ (k ≠ 3 → k ≠ 5 → refused .resolveInvalid)))

/-! ## Traffic rules and the commit barrier -/

/-- LOAD_RULES writes its entries from the first index on and sets the new length; the entries elsewhere keep their contents. LOAD_PRICES, the three profile requests and DISCARD_PENDING replace what they name in the pending image and nothing else. While a barrier is in progress COMMIT_TABLES and DISCARD_PENDING are refused BARRIER_PENDING and nothing changes; so is a LOAD_SLOT_PROFILE of any sound payload. That LOAD_RULES and LOAD_PRICES carry no second count is the model's reading (log 71). -/
def Obligations.LoadRequestsEditThePendingImage : Prop :=
  (∀ (s : State) (f : DownFrame) (s1 : State) (first newLen : Nat) (es : List RuleEntry),
    s.Takes (.mgmt .loadRules) f s1 → s1.part = .running → s1.rules.barrier = none →
    (∀ e ∈ es, e.fits = true) → es.length ≤ 64 →
    let old := s1.rules.pendingImg.rules
    first + es.length ≤ 128 → first ≤ old.length → newLen ≤ max old.length (first + es.length) →
    newLen ≤ 128 →
    f.fields = b1 first ++ b1 es.length ++ b1 newLen ++ (es.map RuleEntry.bytes).flatten →
    ∃ new : List RuleEntry, new.length = newLen
      ∧ (∀ i, i < newLen → new[i]? =
          if first ≤ i ∧ i < first + es.length then es[i - first]? else old[i]?)
      ∧ exec .loadRules s = .next (({ s1 with rules := { s1.rules with
          pendingImg := { s1.rules.pendingImg with rules := new } } } : State).answer .loadRules f .ok
            (b1 newLen)))
  ∧ (∀ (s : State) (f : DownFrame) (s1 : State), s1.part = .running → s1.rules.barrier = none →
      let edited := fun (r : MgmtReq) (im : Image) => exec r.command s = .next
        (({ s1 with rules := { s1.rules with pendingImg := im } } : State).answer r f .ok [])
      let im := s1.rules.pendingImg
      (∀ (first : Nat) (ps : List Price), s.Takes (.mgmt .loadPrices) f s1 → 1 ≤ ps.length →
        first + ps.length ≤ 16 → (∀ p ∈ ps, p.unit < 16777216 ∧ p.media < 256) →
        f.fields = b1 first ++ b1 ps.length ++ (ps.map Price.bytes).flatten →
        edited .loadPrices { im with prices := Vector.ofFn (fun i =>
          if h : first ≤ i.val ∧ i.val - first < ps.length then ps[i.val - first]'h.2
          else im.prices.get i) })
      ∧ (∀ (x : Slot) (p : SlotProfile), s.Takes (.mgmt .loadSlotProfile) f s1 →
        p.divider < 256 → p.response < 65536 → p.block < 65536 → p.depth < 256 →
        f.fields = b1 (slotNo x).val ++ p.bytes →
        edited .loadSlotProfile { im with slots := im.slots.set (slotNo x).val p })
      ∧ (∀ (e : EngineNo) (p : EngineProfile), s.Takes (.mgmt .loadEngineProfile) f s1 →
        p.response < 256 → p.page < 65536 → f.fields = b1 (engineNum e) ++ p.bytes →
        edited .loadEngineProfile { im with engines := im.engines.set (engineIdx e).val p })
      ∧ (∀ (p : PayProfile), s.Takes (.mgmt .loadPaymentProfile) f s1 → p.baud < 16777216 →
        p.framing < 256 → p.lenOffset < 256 → p.lenWidth < 256 → -128 ≤ p.lenAdjust →
        p.lenAdjust < 128 → p.trailing < 256 → p.codeOffset < 256 → p.codeWidth < 256 →
        p.timeout < 65536 → f.fields = p.bytes →
        edited .loadPaymentProfile { im with pay := p })
      ∧ (s.Takes (.mgmt .discardPending) f s1 → f.fields = [] →
        edited .discardPending { s1.rules.active with
          rules := s1.rules.active.rules.map (fun e => { e with good := true }) }))
  ∧ (∀ (s : State) (f : DownFrame) (s1 : State), s1.part = .running → s1.rules.barrier ≠ none →
      (s.Takes (.mgmt .commitTables) f s1 → f.fields = [] →
        exec .commitTables s = .next (s1.answer .commitTables f .barrierPending []))
      ∧ (s.Takes (.mgmt .discardPending) f s1 → f.fields = [] →
        exec .discardPending s = .next (s1.answer .discardPending f .barrierPending []))
      ∧ (∀ (x : Slot) (p : SlotProfile), s.Takes (.mgmt .loadSlotProfile) f s1 →
        f.fields = b1 (slotNo x).val ++ p.bytes →
        exec .loadSlotProfile s = .next (s1.answer .loadSlotProfile f .barrierPending [])))

/-- An image passes validation exactly when every field of its prices, profiles and payment profile is in its range and every rule entry has the values of R51 that R63 admits. -/
def Obligations.ValidationAdmitsOnlySoundImages : Prop :=
  ∀ im : Image, im.fault = none ↔
    (∀ e ∈ im.rules,
      e.direction ≤ 1 ∧ e.portClass ≤ 2 ∧ (e.portClass = 0 → e.requestKind ≤ 4)
      ∧ (e.direction = 0 → e.action ≤ 3) ∧ (e.direction = 1 → e.action = 0 ∨ e.action = 4)
      ∧ (e.payClass ≠ 0 → e.portClass = 2)
      ∧ (e.payClass ≠ 0 → e.direction = 0 → e.payClass ≤ 4 ∧ e.action ≠ 3)
      ∧ (e.payClass ≠ 0 → e.direction = 1 → 5 ≤ e.payClass ∧ e.payClass ≤ 10)
      ∧ (e.amtWidth ≠ 0 → e.payClass ≠ 0 ∧ e.amtWidth ≤ 6 ∧ e.amtFormat ≤ 2)
      ∧ (e.direction = 0 → e.payClass ∈ [1, 2, 4] → e.amtWidth ≠ 0))
    ∧ (∀ p ∈ im.prices.toList, p.unit ≤ 9999999 ∧ p.media ≤ 15)
    ∧ (∀ p ∈ im.slots.toList, 2 ≤ p.divider ∧ p.divider ≤ 250 ∧ 1 ≤ p.response ∧ p.response ≤ 1000
        ∧ 1 ≤ p.block ∧ p.block ≤ 2000 ∧ p.depth ≤ 16)
    ∧ (∀ p ∈ im.engines.toList, 1 ≤ p.response ∧ p.response ≤ 60 ∧ 10 ≤ p.page ∧ p.page ≤ 600)
    ∧ im.pay.baud ∈ [9600, 19200, 38400, 57600, 115200] ∧ im.pay.framing ≤ 1
    ∧ im.pay.lenOffset ≤ 15 ∧ 1 ≤ im.pay.lenWidth ∧ im.pay.lenWidth ≤ 2
    ∧ -16 ≤ im.pay.lenAdjust ∧ im.pay.lenAdjust ≤ 16 ∧ im.pay.endByte ≠ im.pay.startByte
    ∧ im.pay.trailing ≤ 4 ∧ im.pay.codeOffset ≤ 15 ∧ 1 ≤ im.pay.codeWidth ∧ im.pay.codeWidth ≤ 2
    ∧ 5 ≤ im.pay.timeout ∧ im.pay.timeout ≤ 600

/-- COMMIT_TABLES of an image with a fault is refused TABLE_INVALID with the place; of a valid image it freezes the pending image and switches every port without a message in flight, and with no port busy the image is active at once under the next generation. At the end of a message a port that is left without one switches; while one port is still busy the active image stays, and with the last switch the frozen image becomes active under the next generation, VALID unless it was marked INVALID meanwhile. Without a barrier nothing happens. The bytes of the place that TABLE_INVALID carries are logs 14, 60 and 73; that every entry of the image made active is written with good parity is log 29. -/
def Obligations.CommitSwitchesAtTheBarrier : Prop :=
  (∀ (s : State) (f : DownFrame) (s1 : State), s.Takes (.mgmt .commitTables) f s1 →
    s1.part = .running → f.fields = [] → s1.rules.barrier = none →
    let r := s1.rules
    let frozen : Image := { r.pendingImg with rules := r.pendingImg.rules.map (fun e => { e with good := true }) }
    (∀ p, r.pendingImg.fault = some p →
      exec .commitTables s = .next (s1.answer .commitTables f .tableInvalid p.bytes))
    ∧ (r.pendingImg.fault = none → (∃ p ∈ allPorts, s1.portBusy p = true) → ∃ t : State,
        exec .commitTables s = .next t ∧ t.link = s1.link
        ∧ t.rules = { r with
            pendingImg := frozen,
            barrier := some { switched := allPorts.filter (fun p => !s1.portBusy p), tag := f.tag,
                              order := f.order, newValid := true } })
    ∧ (r.pendingImg.fault = none → (∀ p ∈ allPorts, s1.portBusy p = false) → ∃ t : State,
        exec .commitTables s = .next t
        ∧ t.rules = { active := frozen, gen := (r.gen + 1) % 65536, valid := true,
                      pendingImg := frozen, barrier := none }
        ∧ (∀ x, (t.slot x).buf = none ∧ (t.slot x).prefetch = none)
        ∧ (s1.link.state = .up → s1.room = true → s1.link.waiting = [] →
            t.link = { s1.link with upQueue := s1.link.upQueue ++ [{
              chan := 0, kind := .response, order := f.order, fip := s1.fip, tag := f.tag,
              payload := [0x00, 0x37, 0] ++ toBytes 2 ((r.gen + 1) % 65536) }] })))
  ∧ (∀ s : State,
      (s.rules.barrier = none → s.settle = s)
      ∧ (∀ b, s.rules.barrier = some b →
        let switched := allPorts.filter (fun p => b.switched.contains p || !s.portBusy p)
        ((∃ p ∈ allPorts, p ∉ switched) →
          s.settle.rules = { s.rules with barrier := some { b with switched := switched } }
          ∧ s.settle.link = s.link ∧ s.settle.slots = s.slots)
        ∧ ((∀ p ∈ allPorts, p ∈ switched) →
          let frozen : Image := { s.rules.pendingImg with
            rules := s.rules.pendingImg.rules.map (fun e => { e with good := true }) }
          s.settle.rules = { active := frozen, gen := (s.rules.gen + 1) % 65536, valid := b.newValid,
                             pendingImg := frozen, barrier := none }
          ∧ (∀ x, (s.settle.slot x).buf = none ∧ (s.settle.slot x).prefetch = none)
          ∧ (s.link.state ≠ .up → s.settle.link = s.link))
        ∧ s.settle.orders = s.orders ∧ s.settle.smc = s.smc ∧ s.settle.engines = s.engines
        ∧ s.settle.banks = s.banks))

/-- A message is classified by the first entry that matches; without one a DOWN message is refused and an UP message passes, without a class; under an INVALID generation nothing is matched; an entry with bad parity read before any match reports RULE_PARITY with its index and makes its generation INVALID. The three amount formats, on the manual's own example, and when an amount is unreadable: the field past the last byte, a half-byte above 9, a value above the largest amount. -/
def Obligations.FirstMatchingEntryClassifies : Prop :=
  (∀ (s : State) (gen : Nat) (m : Msg),
    let rules := (s.imageOf gen).rules
    (s.genValid gen = false → s.classify gen m = (s, .invalid))
    ∧ (s.genValid gen = true → ∀ i e, rules[i]? = some e → e.good = true → e.fitsMsg m = true →
        (∀ j g, j < i → rules[j]? = some g → g.good = true ∧ g.fitsMsg m = false) →
        s.classify gen m = (s, .found (actionOf e.action) (some i) e.payClass
          (if e.payClass = 0 then .absent else e.amount m.bytes)))
    ∧ (s.genValid gen = true → (∀ g ∈ rules, g.good = true ∧ g.fitsMsg m = false) →
        s.classify gen m = (s, .found (if m.up then .pass else .refuse) none 0 .absent))
    ∧ (s.genValid gen = true → ∀ i e, rules[i]? = some e → e.good = false →
        (∀ j g, j < i → rules[j]? = some g → g.good = true ∧ g.fitsMsg m = false) →
        let img : ImageName := if gen = s.rules.gen then .active else .pending
        s.classify gen m = ((s.markInvalid gen).report
          { unit := .ruleUnit, op := .matchIn img, cause := .ruleParity } none (some (.rule i)), .invalid)))
  ∧ (∀ (e : RuleEntry) (bytes : Bytes),
      (e.amtOffset = 6 → e.amtWidth = 3 → 9 ≤ bytes.length →
        (bytes.drop 6).take 3 = [0x01, 0x25, 0x90] →
        (e.amtFormat = 2 → e.amount bytes = .value 12590)
        ∧ (e.amtFormat = 0 → e.amount bytes = .value 75152)
        ∧ (e.amtFormat = 1 → e.amount bytes = .value 9446657))
      ∧ (e.amtWidth ≠ 0 → bytes.length < e.amtOffset + e.amtWidth → e.amount bytes = .unreadable)
      ∧ (e.amtWidth ≠ 0 → e.amtFormat = 0 →
          999999999999 < beNat ((bytes.drop e.amtOffset).take e.amtWidth) →
          e.amount bytes = .unreadable)
      ∧ (e.amtWidth = 1 → e.amtFormat = 2 → ∀ b, bytes[e.amtOffset]? = some b →
          (9 < b.toNat / 16 ∨ 9 < b.toNat % 16 → e.amount bytes = .unreadable)
          ∧ (b.toNat / 16 ≤ 9 → b.toNat % 16 ≤ 9 →
              e.amount bytes = .value (b.toNat / 16 * 10 + b.toNat % 16)))
      ∧ (e.amtWidth = 0 → e.amount bytes = .absent))

/-! ## Print items and the scheduler -/

/-- SUBMIT_ITEM appends a PENDING item with the price and media code of the active price table and answers with its index and both; RESUME_ITEM returns a HELD item to PENDING; WITHDRAW_ITEM withdraws a PENDING, HELD or QUEUED item, takes its reference from the engine queues and answers with the state it left. Each refusal is the one its rule gives. -/
def Obligations.ItemRequestsActOnThePrintList : Prop :=
  ∀ (s : State) (f : DownFrame) (s1 : State) (n : OrderNo), s1.part = .running →
    orderOfByte f.order = some n → (s1.order n).live = true →
    let o := s1.order n
    (∀ (q : SubmitFields), s.Takes (.mgmt .submitItem) f s1 → submitFields f.fields = some q →
      let p := s1.rules.active.prices.get q.cls
      let it : Item :=
        { choice := q.choice, cls := q.cls.val, price := p.unit, media := p.media,
          copies := q.copies, delivered := 0, wasted := 0, offset := q.offset, skip := q.skip,
          width := q.width, rows := q.rows, bandRows := q.bandRows, state := .pending }
      let last := q.offset + q.skip + q.width * 3 * q.rows
      (o.state ≠ .open_ → exec .submitItem s = .next (s1.answer .submitItem f .orderState []))
      ∧ (o.state = .open_ → 32 ≤ o.items.length →
          exec .submitItem s = .next (s1.answer .submitItem f .itemLimit []))
      ∧ (o.state = .open_ → o.items.length < 32 → o.map.length * 65536 < last →
          exec .submitItem s = .next (s1.answer .submitItem f .outOfWindow []))
      ∧ (o.state = .open_ → o.items.length < 32 → last ≤ o.map.length * 65536 → ∃ t : State,
          t = { s1 with orders := t.orders } ∧ (∀ m, m ≠ n → t.order m = s1.order m)
          ∧ t.order n = { o with items := o.items ++ [it], shortArmed := (t.order n).shortArmed }
          ∧ exec .submitItem s = .next (t.answer .submitItem f .ok
              (b1 o.items.length ++ toBytes 3 p.unit ++ b1 p.media))))
    ∧ (∀ (b : Byte), s.Takes (.mgmt .resumeItem) f s1 → f.fields = [b] → o.state = .open_ →
      (∀ it, o.items[b.toNat]? = some it → it.state = .held → ∃ t : State,
          t = { s1 with orders := t.orders } ∧ (∀ m, m ≠ n → t.order m = s1.order m)
          ∧ t.order n = { o with
              items := o.items.set b.toNat { it with state := .pending },
              shortArmed := (t.order n).shortArmed }
          ∧ exec .resumeItem s = .next (t.answer .resumeItem f .ok []))
      ∧ ((∀ it, o.items[b.toNat]? = some it → it.state ≠ .held) →
          exec .resumeItem s = .next (s1.answer .resumeItem f .itemState [])))
    ∧ (∀ (b : Byte), s.Takes (.mgmt .withdrawItem) f s1 → f.fields = [b] →
      (∀ it, o.items[b.toNat]? = some it → it.state ∈ [.pending, .held, .queued] → ∃ t : State,
          t = { s1 with orders := t.orders, engines := t.engines }
          ∧ (∀ m, m ≠ n → t.order m = s1.order m)
          ∧ t.order n = { o with
              items := o.items.set b.toNat { it with state := .withdrawn },
              shortArmed := (t.order n).shortArmed }
          ∧ (∀ e, t.eng e = { s1.eng e with
              queue := (s1.eng e).queue.erase { order := n, item := b.toNat } })
          ∧ exec .withdrawItem s = .next (t.answer .withdrawItem f .ok (b1 it.state.code)))
      ∧ ((∀ it, o.items[b.toNat]? = some it → it.state ∉ [.pending, .held, .queued]) →
          exec .withdrawItem s = .next (s1.answer .withdrawItem f .itemState [])))

/-- The tests of the gate, and the engine chosen: the eligible one, of two the one with the shorter queue, engine 1 when they are equal. A search queues the first passing candidate of the orders after the last one served, raises CREDIT_SHORT once for a candidate that is short, changes nothing when no candidate passes or is newly short, and is not made while the part is HALTED. (R117 to R121, R127.) -/
def Obligations.SearchQueuesTheFirstPassingCandidate : Prop :=
  (∀ (s : State) (n : OrderNo) (it : Item),
    let o := s.order n
    let needed := o.committed + it.price * (it.copies - it.delivered)
    let effective := if o.pay.state = .authorised then o.pay.authorised else 0
    let tests12 := o.state = .open_ ∧ o.pay.state ∈ [.none_, .declined, .authorised]
    let eligible := fun e : EngineNo =>
      (s.eng e).media = some it.media ∧ (s.eng e).state ≠ .offline ∧ (s.eng e).state ≠ .faulted
        ∧ (s.eng e).queue.length < 8 ∧ (it.choice = .either ∨ it.choice = .only e)
    let q1 := (s.eng .one).queue.length
    let q2 := (s.eng .two).queue.length
    (s.test n it = .short ↔ tests12 ∧ effective < needed)
    ∧ (s.test n it = .pass .one ↔ tests12 ∧ needed ≤ effective ∧ eligible .one
        ∧ (eligible .two → q1 ≤ q2))
    ∧ (s.test n it = .pass .two ↔ tests12 ∧ needed ≤ effective ∧ eligible .two
        ∧ (eligible .one → q2 < q1)))
  ∧ (∀ s : State,
      let waits := fun m : OrderNo => ∀ j jt, (s.order m).candidate = some j →
        (s.order m).items[j]? = some jt →
        s.test m jt = .wait ∨ s.test m jt = .short ∧ (s.order m).shortArmed = false
      (s.part = .halted → exec .schedulerSearch s = .next s)
      ∧ (s.part = .running → s.resetLow = false →
        (∀ n i it e before after, ordersAfter s.lastServed = before ++ n :: after →
          (s.order n).candidate = some i → (s.order n).items[i]? = some it → s.test n it = .pass e →
          (∀ m ∈ before, waits m) →
          exec .schedulerSearch s = .next ({ s with
            orders := s.orders.set n.val ({ s.order n with
              items := (s.order n).items.set i { it with state := .queued }, shortArmed := true } :
              Order),
            engines := s.engines.set (engineIdx e).val ({ s.eng e with
              queue := (s.eng e).queue ++ [{ order := n, item := i }] } : Engine),
            lastServed := n } : State))
        ∧ ((∀ m, waits m) → exec .schedulerSearch s = .next s)
        ∧ (∀ n i it, (s.order n).candidate = some i → (s.order n).items[i]? = some it →
          s.test n it = .short → (s.order n).shortArmed = true → (∀ m, m ≠ n → waits m) →
          exec .schedulerSearch s = .next
            ({ s.raise .creditShort (some n)
                ([orderByte (some n)] ++ b1 i
                  ++ toBytes 6 ((s.order n).committed + it.price * (it.copies - it.delivered))
                  ++ toBytes 6 (if (s.order n).pay.state = .authorised then (s.order n).pay.authorised
                      else 0)
                  ++ b1 (s.order n).pay.state.code) with
                orders := s.orders.set n.val ({ s.order n with shortArmed := false } : Order) } :
              State))))

/-! ## Card slots, the card bus and staged reads -/

/-- The card-detect input starts or abandons a debounce; a debounced insertion makes the slot PRESENT with its lock switch read and SLOT_EVENT (the codes of its slot states are log 51), but waits while the slot's port still carries the old card's read and is then taken at the end of that read, with a free value for the level of the lock switch (R105, log 78): here of a read that was stopped, in BlocksReachTheirPlaces of one that sends its completion; a debounced removal empties the slot, unbinds it, discards its prefetch, ends a staged read with MEDIA_REMOVED (one that was stopped, or whose completion is formed, keeps its cause: log 25) and, where the slot was BUSY otherwise, completes the request with MEDIA_REMOVED. -/
def Obligations.CardDetectionFollowsTheDebounce : Prop :=
  ∀ (s : State) (x : Slot),
    let r := s.slot x
    let put := fun r' : SlotRec => ({ s with slots := s.slots.set (slotNo x).val r' } : State)
    (∀ p, p ≠ r.pin → s.resetLow = false →
      ((r.base = none ∧ p = true ∨ r.base ≠ none ∧ p = false) →
        exec (.cardDetectChange x p) s = .next (put { r with pin := p, debounce := .running s.now }))
      ∧ ((r.base = none ∧ p = false ∨ r.base ≠ none ∧ p = true) →
        exec (.cardDetectChange x p) s = .next (put { r with pin := p, debounce := .idle })))
    ∧ (∀ t0 locked, r.base = none → r.pin = true → r.debounce = .running t0 →
      (s.portBusy (.slotPort x) = false → exec (.cardInsertion x locked) s = .next
        ((put { r with base := some .present, lock := some locked, debounce := .idle }).raise .slotEvent
          r.bound (b1 (slotNo x).val ++ [1] ++ [orderByte r.bound] ++ flagByte locked)))
      ∧ (s.portBusy (.slotPort x) = true → exec (.cardInsertion x locked) s = .next
        (put { r with debounce := .ended })))
    ∧ (∀ c flips, r.base = none → r.pin = true → r.debounce = .ended → r.request = none →
      s.ctx x = some c → c.cause = some .stopped → c.buffer = [] → c.moved = [] → c.waits = false →
      s.rules.barrier = none → s.link.waiting = [] →
      exec (.stagedReadComplete x flips) s = .next
        (({ put { r with base := some .present, lock := some (Config.lockLevel s.free), debounce := .idle }
            with ctxs := s.ctxs.set (slotNo x).val none, free := s.free + 1 } : State).raise .slotEvent
          r.bound (b1 (slotNo x).val ++ [1] ++ [orderByte r.bound] ++ flagByte (Config.lockLevel s.free))))
    ∧ (∀ t0 flips, r.base ≠ none → r.pin = false → r.debounce = .running t0 →
      let gone := fun (t : State) => ({ t with
        orders := match r.bound with
          | some n => t.orders.set n.val ({ s.order n with slot := none } : Order)
          | none => t.orders,
        slots := t.slots.set (slotNo x).val ({ t.slot x with
          base := none, bound := none, capacity := none, addressing := none, lock := none,
          request := none, buf := none, prefetch := none, debounce := .idle } : SlotRec),
        bus := { t.bus with grant := t.bus.grant.filter (fun g => g.slot != x) } } : State).raise
          .slotEvent r.bound (b1 (slotNo x).val ++ [0] ++ [orderByte r.bound] ++ [0xFF])
      (r.request = none → s.ctx x = none → exec (.cardRemoval x flips) s = .next (gone s).settle)
      ∧ (∀ c, s.ctx x = some c →
        (∀ g, s.bus.grant = some g → g.slot = x → g.prefetch = false → g.stop = none) →
        exec (.cardRemoval x flips) s = .next (gone ({ s with
          ctxs := s.ctxs.set (slotNo x).val (some { c with
            cause := if c.waits = true ∨ c.cause = some .stopped then c.cause
              else some .mediaRemoved,
            toError := false }) } : State)).settle)
      ∧ (∀ q, s.ctx x = none → r.request = some q → q.finish = none →
        (∀ g, s.bus.grant = some g → g.slot = x → g.prefetch = false → g.stop = none) →
        s.rules.barrier = none → s.AnswerGoes q →
        s.Accepts (q.lastFrames .mediaRemoved q.progress).length →
        exec (.cardRemoval x []) s = .next (gone ({ s with
          slots := s.slots.set (slotNo x).val ({ r with request := none, staging := none } : SlotRec),
          link := (s.cardEnded x q.tag (q.lastFrames .mediaRemoved q.progress) r).link } : State))))

/-- A card request of any kind is checked for the part state, a WRITE that collects (SLOT_BUSY before the payload check, the model's reading, log 16), its payload, its rules, the slot, its order, permit, lock switch and base state, the chain and the card's size, in that order; the first that fails is the reason of its REFUSAL. -/
def Obligations.CardRequestsAreCheckedInSequence : Prop :=
  ∀ (s : State) (f : DownFrame) (s1 : State) (x : Slot) (k : CardKind) (locked : Bool)
    (flips : List ParityFlip), s.Takes (.card x k) f s1 →
    let c := (s1.flipBits flips).classify (s1.portGen (.slotPort x)) (cardMsg false k)
    let u := c.1
    let r := u.slot x
    let refused := fun (t : State) (st : Status) (more : Bytes) =>
      exec (k.command locked flips) s = .next
        (t.place { chan := f.chan, kind := .refusal, order := f.order, fip := t.fip, tag := f.tag,
                   payload := b1 st.code ++ more }).settle
    (s1.part = .unconfigured ∨ s1.part = .training → refused s1 .notReady [])
    ∧ (s1.part = .halted → refused s1 .halted [])
    ∧ (s1.part = .running →
      (s1.collecting x = true → refused s1 .slotBusy [])
      ∧ (s1.collecting x = false →
        (cardFields k f.payload.tail = none → refused s1 .badRequest [])
        ∧ ∀ q, cardFields k f.payload.tail = some q →
          (c.2 = .invalid → refused u .rulesInvalid [])
          ∧ ∀ a i cls am, c.2 = .found a i cls am →
            (a = .refuse → refused u .refusedByRule [])
            ∧ (a ≠ .refuse → r.base = none → refused u .slotState [])
            ∧ (a ≠ .refuse → r.base ≠ none → r.request ≠ none → refused u .slotBusy [])
            ∧ (a ≠ .refuse → ∀ b, r.base = some b → r.request = none →
              (k ≠ .identify → k ≠ .status → r.bound = none → refused u .notBound [])
              ∧ (k = .identify ∨ k = .status ∨ r.bound ≠ none →
                let mayWrite := ∃ n, r.bound = some n ∧ (u.order n).permits.cardWrite = true
                (k = .write ∨ k = .raw ∨ a = .passPermit → ¬ mayWrite →
                  refused u .permitMissing [])
                ∧ ((k = .write ∨ k = .raw ∨ a = .passPermit → mayWrite) →
                  (k = .write ∨ k = .raw → locked = true → refused u .cardLocked [])
                  ∧ ((k = .write ∨ k = .raw → locked = false) →
                  (k = .raw → b = .error → refused u .slotState [])
                  ∧ (k = .readLink ∨ k = .readStaged ∨ k = .write → b ≠ .ready →
                    refused u .slotState [])
                  ∧ (∀ n, k = .readStaged → b = .ready → r.bound = some n →
                    let window := windowSize (u.order n).map
                    let sound := fun (j : Nat) (e : ChainEntry) =>
                      e.offset % 4 = 0 ∧ e.length % 4 = 0 ∧ 4 ≤ e.length ∧ e.length ≤ 65536
                        ∧ e.offset % 65536 + e.length ≤ 65536 ∧ e.offset + e.length ≤ window
                        ∧ ∀ d ∈ q.chain.take j,
                          d.offset + d.length ≤ e.offset ∨ e.offset + e.length ≤ d.offset
                    let shaped := 1 ≤ q.chain.length ∧ q.chain.length ≤ 64
                      ∧ ∀ j e, q.chain[j]? = some e → (e.last = true ↔ j + 1 = q.chain.length)
                    ((u.order n).state ≠ .open_ → refused u .orderState [])
                    ∧ ((u.order n).state = .open_ → ¬ shaped → refused u .chainInvalid [0xFF])
                    ∧ (∀ j e, (u.order n).state = .open_ → shaped → q.chain[j]? = some e →
                      ¬ sound j e → (∀ i d, i < j → q.chain[i]? = some d → sound i d) →
                      refused u .chainInvalid (b1 j))
                    ∧ ((u.order n).state = .open_ → shaped →
                      (∀ j e, q.chain[j]? = some e → sound j e) →
                      r.capacity.getD 0 < q.start + q.count → refused u .outOfMedia []))
                  ∧ (k = .readLink ∨ k = .write → b = .ready →
                    r.capacity.getD 0 < q.start + q.count → refused u .outOfMedia [])))))))

/-- A card request that passes its checks is admitted: it takes the generation of its port, its slot becomes BUSY, its prefetch is discarded unless it is a matching READ to staging, WRITE collects, and any other waits for the bus or is granted it at once with its first command; a matching READ to staging takes the blocks of the prefetch buffer first. -/
def Obligations.AdmittedCardRequestsReachTheBus : Prop :=
  ∀ (s : State) (f : DownFrame) (s1 : State) (x : Slot) (k : CardKind) (locked : Bool)
    (flips : List ParityFlip) (q : CardFields), s.Takes (.card x k) f s1 → s1.part = .running →
    s1.collecting x = false → cardFields k f.payload.tail = some q →
    let gen := s1.portGen (.slotPort x)
    let c := (s1.flipBits flips).classify gen (cardMsg false k)
    let u := c.1
    let r := u.slot x
    ∀ a i cls am, c.2 = .found a i cls am → a ≠ .refuse → u.CardChecksPass x k a locked q →
    let run := exec (k.command locked flips) s
    let req := fun ph : Phase => ({
      kind := k, tag := f.tag, gen := gen, start := q.start, count := q.count, phase := ph,
      rawIndex := q.rawIndex, rawArg := q.rawArg, rawLen := q.rawLen, done := 0, gathered := [],
      action := none, finish := none } : CardReq)
    let record := fun (ph : Phase) => ({ r with
      request := some (req ph), lock := if k = .write ∨ k = .raw then some locked else r.lock,
      staging := if k = .write then some [] else none, buf := none, prefetch := none } : SlotRec)
    let context := fun (n : OrderNo) => ({
      order := n, tag := f.tag, gen := gen, start := q.start, count := q.count, chain := q.chain,
      position := 0, buffer := [], placed := 0, moved := [], received := 0, delivered := 0,
      discarded := 0, written := 0, cause := none, toError := false, action := none, waits := false } : Ctx)
    let ctxs := match k, r.bound with
      | .readStaged, some n => u.ctxs.set (slotNo x).val (some (context n))
      | _, _ => u.ctxs
    let profile := (u.imageOf gen).slots.get (slotNo x)
    let address := fun n => if r.addressing = some .byte then n * 512 else n
    let grant := fun st : BusStage => ({
      slot := x, prefetch := false,
      divider := if k = .identify ∨ (k = .status ∨ k = .raw) ∧ r.base ≠ some .ready then 250
        else profile.divider,
      response := profile.response, block := profile.block, stage := st, next := q.start,
      retried := false, timer := none, readySince := none, stop := none } : Grant)
    let first : CardCmd := match k with
      | .identify => .idReset
      | .status => .status
      | .raw => .raw q.rawIndex q.rawArg
      | .readLink | .readStaged => .read (address q.start)
      | .write => .write (address q.start)
    ((∀ b, r.buf = some b → k ≠ .readStaged ∨ b.start ≠ q.start) → r.prefetch = none →
      (∀ g, u.bus.grant = some g → g.prefetch = false) →
      (k = .write → run = .next ({ u with
        slots := u.slots.set (slotNo x).val (record .collecting) } : State).settle)
      ∧ (k ≠ .write → u.bus.grant ≠ none → run = .next ({ u with
        slots := u.slots.set (slotNo x).val (record .waiting), ctxs := ctxs } : State).settle)
      ∧ (k ≠ .write → u.bus.grant = none → u.part = .running → (∀ y, u.isWaiting y = false) →
        run = .next ({ u with
          slots := u.slots.set (slotNo x).val (record .onBus), ctxs := ctxs,
          bus := { grant := some (grant (.sending first)), lastGranted := x } } : State).settle))
    ∧ (∀ b n, k = .readStaged → r.buf = some b → b.start = q.start → r.prefetch = none →
      r.bound = some n → u.bus.grant = none → u.part = .running → (∀ y, u.isWaiting y = false) →
      let got := min b.blocks.length q.count
      q.count * 512 ≤ (q.chain.map (fun e => e.length)).sum → got ≤ 4 →
      run = .next ({ u with
        slots := u.slots.set (slotNo x).val (record .onBus),
        ctxs := u.ctxs.set (slotNo x).val (some { context n with
          position := got * 512, received := got, buffer := b.blocks.take q.count,
          cause := if got = q.count then some .done else none }),
        bus := { lastGranted := x, grant := if got = q.count then none
          else some ({ grant (.sending (.read (address (q.start + got)))) with
            next := q.start + got } : Grant) } } : State).settle)

/-- A WRITE takes its blocks from DATA frames with its tag and waits for the bus with the last one; on the bus an accepted block is held busy and then counted, a rejected one is written once more with CARD_CRC_RETRY and fails the request with CARD_DATA_ERROR the second time, and the last block completes the request. That a rejected block is written again without a new command is the model's reading (log 19). The card's stop command is no stage of its own (the model's choice, log 67). -/
def Obligations.WritesCollectAndAreCounted : Prop :=
  ∀ (s : State) (x : Slot) (q : CardReq),
    let r := s.slot x
    (∀ (f : DownFrame) (s1 : State) (blocks : List Bytes), s.Takes (.writeData x) f s1 →
      (s1.slot x).staging = some blocks →
      let put := fun r' : SlotRec => ({ s1 with slots := s1.slots.set (slotNo x).val r' } : State)
      let refused := fun st : Status => exec .writeDataFrame s = .next (s1.place
        { chan := f.chan, kind := .refusal, order := f.order, fip := s1.fip, tag := f.tag,
          payload := b1 st.code })
      ((s1.slot x).request = none → exec .writeDataFrame s = .next s1)
      ∧ ((s1.slot x).request = some q → q.phase ≠ .collecting ∨ q.finish ≠ none →
        exec .writeDataFrame s = .next s1)
      ∧ ((s1.slot x).request = some q → q.phase = .collecting → q.finish = none →
        (f.tag ≠ q.tag → refused .slotBusy)
        ∧ (f.tag = q.tag → f.payload.length ≠ 512 → refused .badRequest)
        ∧ (f.tag = q.tag → f.payload.length = 512 →
          let kept := blocks ++ [f.payload]
          (kept.length ≠ q.count → exec .writeDataFrame s = .next
            (put { s1.slot x with staging := some kept }))
          ∧ (kept.length = q.count → (∃ g, s1.bus.grant = some g ∧ g.prefetch = false) →
            exec .writeDataFrame s = .next (put { s1.slot x with
              staging := some kept, request := some { q with phase := .waiting } }))
          ∧ (kept.length = q.count → s1.bus.grant = none → s1.part = .running → q.kind = .write →
            (∀ y, s1.isWaiting y = false) → ∃ t : State, exec .writeDataFrame s = .next t
              ∧ t = { put { s1.slot x with
                    staging := some kept, request := some { q with phase := .onBus } } with
                  bus := t.bus }
              ∧ t.bus.lastGranted = x
              ∧ ∃ g, t.bus.grant = some g ∧ g.slot = x ∧ g.next = q.start
                ∧ g.stage = .sending (.write
                    (if (s1.slot x).addressing = some .byte then q.start * 512 else q.start))))))
    ∧ (∀ g, s.bus.grant = some g → g.slot = x → g.prefetch = false → g.stop = none →
      s.ctx x = none → r.request = some q → q.kind = .write → q.finish = none →
      let on := fun g' : Grant => ({ s with bus := { s.bus with grant := some g' } } : State)
      (g.stage = .writing →
        exec (.cardCheckToken true []) s = .next (on { g with stage := .busyHold, timer := some s.now })
        ∧ (g.retried = false → exec (.cardCheckToken false []) s = .next
          ({ (s.cardError x .write .cardCrcRetry (some g.next)) with
            bus := { s.bus with grant := some { g with retried := true, timer := none } } } : State))
        ∧ (g.retried = true → s.AnswerGoes q → s.Accepts 1 → q.gathered = [] →
          exec (.cardCheckToken false []) s = .next
            ((s.cardError x .write .cardDataError (some g.next)).cardEnded x q.tag
              [(.transit, [3, 4, 0, 0] ++ toBytes 2 q.done)] r).settle))
      ∧ (g.stage = .busyHold →
        (q.done + 1 ≠ q.count → exec (.cardBusyRelease []) s = .next
          ({ on { g with stage := .writing, next := g.next + 1, retried := false, timer := none } with
            slots := s.slots.set (slotNo x).val
              ({ r with request := some { q with done := q.done + 1 } } : SlotRec) } : State))
        ∧ (q.done + 1 = q.count → s.AnswerGoes q → s.Accepts 1 → q.gathered = [] →
          exec (.cardBusyRelease []) s = .next
            (s.cardEnded x q.tag [(.transit, [3, 0, 0, 0] ++ toBytes 2 q.count)] r).settle)))

/-- The arbiter grants a free bus to the first WAITING request after the last slot granted, and to a pending prefetch only when no request waits; the grant sends the first command of its request, and to a staged read that the prefetch buffer matches it gives the buffer's blocks first; a command that has been sent awaits its response; each response is taken as its command says; one that does not answer its command, and a response or readiness timeout, end the request with the slot in ERROR (the code of ERROR in SLOT_EVENT is log 51, its lock level log 62). A RAW that ends so carries a response length of NONE (the model's choice, log 74). That each command is one sending and one response, and which command follows which response, is the model's reading (log 19). The card's stop command is no stage of its own (the model's choice, log 67). -/
def Obligations.BusCommandsAreAnswered : Prop :=
  ∀ (s : State),
    (s.bus.grant = none → s.part ≠ .halted →
      (∀ x q before later, slotsAfter s.bus.lastGranted = before ++ x :: later →
        (∀ y ∈ before, s.isWaiting y = false) → (s.slot x).request = some q → q.phase = .waiting →
        q.finish = none →
        let r := s.slot x
        let profile := (s.imageOf q.gen).slots.get (slotNo x)
        let address := fun n => if r.addressing = some .byte then n * 512 else n
        let first : CardCmd := match q.kind with
          | .identify => .idReset
          | .status => .status
          | .raw => .raw q.rawIndex q.rawArg
          | .readLink | .readStaged => .read (address q.start)
          | .write => .write (address q.start)
        let grant := fun (c : CardCmd) (n : Nat) => ({
          slot := x, prefetch := false,
          divider := if q.kind = .identify ∨ (q.kind = .status ∨ q.kind = .raw) ∧ r.base ≠ some .ready
            then 250 else profile.divider,
          response := profile.response, block := profile.block, stage := .sending c, next := n,
          retried := false, timer := none, readySince := none, stop := none } : Grant)
        let granted := fun (r' : SlotRec) (g : Option Grant) => ({ s with
          slots := s.slots.set (slotNo x).val
            ({ r' with request := some { q with phase := .onBus } } : SlotRec),
          bus := { grant := g, lastGranted := x } } : State)
        (q.kind ≠ .readStaged ∨ (∀ b c, r.buf = some b → s.ctx x = some c → b.start ≠ c.start) →
          exec .busGrant s = .next (granted r (some (grant first q.start))))
        ∧ (∀ b c, q.kind = .readStaged → r.buf = some b → s.ctx x = some c → b.start = c.start →
          c.position = 0 → c.received = 0 → c.buffer = [] → c.moved = [] →
          let got := min b.blocks.length c.count
          c.count * 512 ≤ (c.chain.map (fun e => e.length)).sum → got ≤ 4 →
          exec .busGrant s = .next ({ granted { r with buf := none }
              (if got = c.count then none
                else some (grant (.read (address (c.start + got))) (c.start + got))) with
            ctxs := s.ctxs.set (slotNo x).val (some { c with
              position := got * 512, received := got, buffer := b.blocks.take c.count,
              cause := if got = c.count then some .done else c.cause }) } : State)))
      ∧ (∀ x p before later, slotsAfter s.bus.lastGranted = before ++ x :: later →
        (∀ y, s.isWaiting y = false) → (∀ y ∈ before, s.isPendingPrefetch y = false) →
        (s.slot x).prefetch = some p → p.running = false → ∃ t : State, exec .busGrant s = .next t
          ∧ t = { s with
              slots := s.slots.set (slotNo x).val
                ({ s.slot x with prefetch := some { p with running := true } } : SlotRec),
              bus := t.bus }
          ∧ t.bus.lastGranted = s.bus.lastGranted
          ∧ ∃ g, t.bus.grant = some g ∧ g.slot = x ∧ g.prefetch = true ∧ g.next = p.start))
    ∧ (s.bus.grant ≠ none ∨ s.part = .halted → exec .busGrant s = .next s)
    ∧ ∀ (g : Grant) (q : CardReq), s.bus.grant = some g → g.prefetch = false → g.stop = none →
      let x := g.slot
      let r := s.slot x
      let on := fun g' : Grant => ({ s with bus := { s.bus with grant := some g' } } : State)
      r.request = some q →
      (∀ c, g.stage = .sending c → (q.rawLen ≠ 0 ∨ ∀ n w, c ≠ .raw n w) →
        exec (.cardCommandSent []) s = .next (on { g with
          stage := .awaiting c, timer := some s.now,
          readySince := if c = .idReady then some (g.readySince.getD s.now) else g.readySince }))
      ∧ (s.ctx x = none → q.finish = none → q.gathered = [] → s.AnswerGoes q → s.Accepts 1 →
        let ends := fun (i : Instr) (results : Bytes) (r' : SlotRec) => exec i s = .next
          (s.cardEnded x q.tag [(.transit, b1 q.kind.code ++ [0, 0, 0] ++ results)] r').settle
        let fails := fun (i : Instr) (c : Cause) (st : CompletionStatus) =>
          exec i s = .next (s.cardFailed x q c none st).settle
        (∀ n w, g.stage = .sending (.raw n w) → q.rawLen = 0 → ends (.cardCommandSent []) [0] r)
        ∧ (∀ c, g.stage = .awaiting c →
          (∀ l, ∀ a ∈ [CardAnswer.damaged, .wrongCommand, .cardError],
            fails (.cardCommandResponse a l []) .cardProtocol .cardDataError)
          ∧ fails (.cardResponseTimeout []) .cardTimeout .cardTimeout
          ∧ (∀ l, c = .idReset → exec (.cardCommandResponse .ack l []) s = .next
              (on { g with stage := .sending .idReady, timer := none }))
          ∧ (∀ l, c = .idReady → exec (.cardCommandResponse .notReady l []) s = .next
              (on { g with stage := .sending .idReady, timer := none }))
          ∧ (∀ l, c = .idReady → exec (.cardCommandResponse .ready l []) s = .next
              (on { g with stage := .sending .idRecord, timer := none }))
          ∧ (∀ l record (n : Word32) (ad : Byte), c = .idRecord → record.length = 16 → n ≠ 0 →
            (ad = 0 → n.toNat ≤ 8388608 →
              ends (.cardCommandResponse (.identity record n ad) l []) (record ++ toBytes 4 n.toNat ++ [0])
                { r with base := some .ready, capacity := some n.toNat, addressing := some .byte })
            ∧ (ad = 1 →
              ends (.cardCommandResponse (.identity record n ad) l []) (record ++ toBytes 4 n.toNat ++ [1])
                { r with base := some .ready, capacity := some n.toNat, addressing := some .block })
            ∧ (ad = 0 ∧ 8388608 < n.toNat ∨ 2 ≤ ad.toNat →
              fails (.cardCommandResponse (.identity record n ad) l []) .cardProtocol .cardDataError))
          ∧ (∀ l v b, c = .status → r.base = some b →
            ends (.cardCommandResponse (.status v) l [])
              (toBytes 4 v.toNat ++ b1 b.code ++ [orderByte r.bound]
                ++ (if b = .ready then
                      toBytes 4 (r.capacity.getD 0) ++ b1 ((r.addressing.map Addressing.code).getD 0)
                    else [0, 0, 0, 0, 0])
                ++ flagByte l)
              { r with lock := some l })
          ∧ (∀ l n w response, c = .raw n w →
            q.rawLen = 1 ∧ response.length = 4 ∨ q.rawLen = 2 ∧ response.length = 16 →
            ends (.cardCommandResponse (.raw response) l []) (b1 q.rawLen ++ response) r)
          ∧ (∀ l ad, c = .read ad → exec (.cardCommandResponse .ack l []) s = .next
              (on { g with stage := .reading, timer := some s.now }))
          ∧ (∀ l ad, c = .write ad → exec (.cardCommandResponse .ack l []) s = .next
              (on { g with stage := .writing, timer := none })))
        ∧ (g.readySince ≠ none → g.stage = .sending .idReady ∨ g.stage = .awaiting .idReady →
          fails (.identifyReadyTimeout []) .cardTimeout .cardTimeout))

/-- A block that is read counts and goes to its DATA frame, its context or its prefetch buffer; a failed check is read once more and then ends the read with CARD_DATA_ERROR, a block timeout ends it with the slot in ERROR; the pieces of the oldest block of a write buffer are written along the chain, as many as come before another command (an operand, log 26), each byte at its place in the window, and a bulk read of the order that was taken before and meets them is carried out first (log 27); a staged read that has ended sends its completion record, and an insertion that waited for it is taken (R105; its lock level is a free value, log 78) (the code of ERROR in its SLOT_EVENT is log 51, its lock level log 62). A request that is to stop (R92, R94) ends with its block or its command, without a completion and, as the model has it (log 20), without a second reading or writing and without a change of the base state, its errors captured; the card part of a staged read ends STOPPED (R107). A prefetch ends as R110 gives: where it is to stop the last block joins its buffer, unless the buffer has been discarded, and a timeout discards the buffer and takes the slot to ERROR, but not while a request makes it BUSY or the part is HALTED (log 20; the lock level in its SLOT_EVENT is log 62). The card's stop command is no stage of its own (the model's choice, log 67). -/
def Obligations.BlocksReachTheirPlaces : Prop :=
  ∀ (s : State) (x : Slot) (data : Bytes), data.length = 512 →
    let r := s.slot x
    (∀ g, s.bus.grant = some g → g.slot = x → g.stage = .reading → g.stop = none →
      let on := fun g' : Grant => ({ s with bus := { s.bus with grant := some g' } } : State)
      let next := { g with next := g.next + 1, retried := false, timer := some s.now }
      (∀ q, g.prefetch = false → r.request = some q → q.finish = none → q.kind = .readLink →
        s.ctx x = none →
        let q1 := { q with done := q.done + 1, gathered := q.gathered ++ [data] }
        let put := fun (t : State) (q' : CardReq) => ({ t with
          slots := s.slots.set (slotNo x).val ({ r with request := some q' } : SlotRec) } : State)
        (q1.done ≠ q.count → q1.gathered.length < 4 →
          exec (.cardBlockReceived data true []) s = .next (put (on next) q1))
        ∧ (q1.done ≠ q.count → 4 ≤ q1.gathered.length → s.AnswerGoes q → s.Accepts 1 →
          exec (.cardBlockReceived data true []) s = .next (put ({ on next with
            link := { s.link with upQueue := s.link.upQueue ++ [{
              chan := 2 + (slotNo x).val, kind := .data, order := orderByte r.bound, fip := s.fip,
              tag := q.tag, payload := q1.gathered.flatten }] } } : State)
            { q1 with gathered := [], action := some true }))
        ∧ (q1.done = q.count → s.AnswerGoes q → s.Accepts 2 →
          exec (.cardBlockReceived data true []) s = .next
            (s.cardEnded x q.tag (q1.lastFrames .done (toBytes 2 q.count)) r).settle)
        ∧ (g.retried = false → exec (.cardBlockReceived data false []) s = .next
          ({ (s.cardError x .readLink .cardCrcRetry (some g.next)) with
            bus := { s.bus with grant := some { g with
              stage := .sending (.read (if r.addressing = some .byte then g.next * 512 else g.next)),
              retried := true, timer := none } } } : State))
        ∧ (s.AnswerGoes q → s.Accepts (q.lastFrames .cardDataError q.progress).length →
          (g.retried = true → exec (.cardBlockReceived data false []) s = .next
            ((s.cardError x .readLink .cardDataError (some g.next)).cardEnded x q.tag
              (q.lastFrames .cardDataError q.progress) r).settle)
          ∧ exec (.cardBlockTimeout []) s = .next
            (s.cardFailed x q .cardTimeout (some g.next) .cardTimeout).settle))
      ∧ (∀ c, g.prefetch = false → s.ctx x = some c →
        let room := c.position < (c.chain.map (fun e => e.length)).sum
        let c1 := { c with
          position := c.position + 512, received := c.received + 1,
          buffer := if room then c.buffer ++ [data] else c.buffer,
          discarded := if room then c.discarded else c.discarded + 1 }
        (c.received + 1 ≠ c.count → exec (.cardBlockReceived data true []) s = .next
          ({ on (if 4 ≤ c1.buffer.length then { next with stage := .heldBuf, timer := none } else next) with
            ctxs := s.ctxs.set (slotNo x).val (some c1) } : State))
        ∧ (c.received + 1 = c.count → exec (.cardBlockReceived data true []) s = .next
          ({ s with bus := { s.bus with grant := none },
                    ctxs := s.ctxs.set (slotNo x).val (some { c1 with cause := some .done }) } : State))
        ∧ (∀ q, r.request = some q → exec (.cardBlockTimeout []) s = .next
          ({ (s.cardError x q.kind .cardTimeout (some g.next)) with
            bus := { s.bus with grant := none },
            ctxs := s.ctxs.set (slotNo x).val
              (some { c with cause := some .cardTimeout, toError := true }) } : State)))
      ∧ (∀ p b, g.prefetch = true → r.prefetch = some p → r.buf = some b →
        let kept : PrefetchBuf := { b with blocks := b.blocks ++ [data] }
        (kept.blocks.length < p.target → exec (.cardBlockReceived data true []) s = .next
          ({ on next with slots := s.slots.set (slotNo x).val ({ r with buf := some kept } : SlotRec) } :
            State))
        ∧ (p.target ≤ kept.blocks.length → exec (.cardBlockReceived data true []) s = .next
          ({ s with
            bus := { s.bus with grant := none },
            slots := s.slots.set (slotNo x).val
              ({ r with buf := some kept, prefetch := none } : SlotRec) } : State))))
    ∧ (∀ c block rest k, s.ctx x = some c → c.buffer = block :: rest → c.moved = [] → s.smc.ecc = [] →
      (∀ g, s.bus.grant = some g → g.slot = x → g.stage ≠ .moving) →
      let map := (s.order c.order).map
      let ps := pieces c.chain (c.delivered * 512) block
      let now := (ps.drop c.placed).take k
      (∀ e ∈ c.chain, e.offset + e.length ≤ windowSize map) →
      c.chain.Pairwise (fun d e => d.offset + d.length ≤ e.offset ∨ e.offset + e.length ≤ d.offset) →
      (∀ m ∈ map, s.hasPage m.page = true) → (map.map (fun m => m.page)).Nodup →
      ((∀ b, s.smc.bulk = some b → b.order = c.order → b.result ≠ none) →
        ∃ t : State, exec (.writeBufferDrain ⟨x, k⟩) s = .next t.settle
        ∧ t = { s with smc := { s.smc with dram := t.smc.dram }, ctxs := t.ctxs, bus := t.bus }
        ∧ (ps.length ≤ c.placed + k →
          t.ctx x = some { c with
            buffer := rest, placed := 0, delivered := c.delivered + 1,
            written := c.written + (ps.map (fun p => p.2.length)).sum }
          ∧ (∀ g, s.bus.grant = some g → g.slot = x → g.stage = .heldBuf →
            t.bus = { s.bus with grant := some { g with stage := .reading, timer := some s.now } })
          ∧ ((∀ g, s.bus.grant = some g → g.slot = x → g.stage ≠ .heldBuf) → t.bus = s.bus))
        ∧ (c.placed + k < ps.length →
          t.ctx x = some { c with placed := c.placed + k } ∧ t.bus = s.bus)
        ∧ (∀ y, y ≠ x → t.ctx y = s.ctx y)
        ∧ (∀ p ∈ now, ∀ j, j < p.2.length → ∃ a, translate map (p.1 + j) = some a
            ∧ some (t.smc.dram.read a) = p.2[j]?)
        ∧ (∀ a, (∀ p ∈ now, ∀ j, j < p.2.length → translate map (p.1 + j) ≠ some a) →
            t.smc.dram.read a = s.smc.dram.read a))
      ∧ (∀ b len, s.smc.bulk = some b → b.order = c.order → b.result = none → b.kind = .read len →
        b.offset + len ≤ windowSize map → (∀ m ∈ map, m.poisoned = false) →
        (∃ p ∈ now, b.offset < p.1 + p.2.length ∧ p.1 < b.offset + len) →
        ∃ (t : State) (bytes : Bytes), exec (.writeBufferDrain ⟨x, k⟩) s = .next t.settle
          ∧ bytes.length = len
          ∧ (∀ i, i < len → ∃ a, translate map (b.offset + i) = some a
            ∧ bytes[i]? = some (s.smc.dram.read a))
          ∧ t.smc.bulk = some { b with result := some (.ok, bytes) }))
    ∧ (∀ c st v, s.ctx x = some c → c.buffer = [] → c.moved = [] → c.waits = false → c.action = none →
      c.status = some st → s.part ≠ .halted → s.rules.barrier = none →
      s.classify c.gen (cardMsg true .readStaged) = (s, v) → v.passes = true → s.Accepts 1 →
      let profile := s.rules.active.slots.get (slotNo x)
      let upto := c.start + c.count
      let ended := fun r' : SlotRec => ({ s with
        ctxs := s.ctxs.set (slotNo x).val none,
        slots := s.slots.set (slotNo x).val ({ r' with
          request := none, staging := if r.request = none then r.staging else none } : SlotRec),
        link := { s.link with upQueue := s.link.upQueue ++ [{
          chan := 2 + (slotNo x).val, kind := .transit, order := orderByte r.bound, fip := s.fip,
          tag := c.tag, payload := [2] ++ b1 st.code ++ [0, 0] ++ toBytes 2 c.delivered
            ++ toBytes 2 c.discarded
            ++ toBytes 4 ((c.chain.map (fun e => e.length)).sum - c.written) }] } } : State)
      let noneWaits := r.base ≠ none ∨ r.pin = false ∨ r.debounce ≠ .ended
      (noneWaits → c.cause ≠ some .done → c.toError = false →
        exec (.stagedReadComplete x []) s = .next (ended r))
      ∧ (¬ noneWaits → c.cause ≠ some .done → c.toError = false →
        exec (.stagedReadComplete x []) s = .next
          (({ ended { r with
                base := some .present, lock := some (Config.lockLevel s.free), debounce := .idle }
              with free := s.free + 1 } : State).raise .slotEvent r.bound
            (b1 (slotNo x).val ++ [1] ++ [orderByte r.bound] ++ flagByte (Config.lockLevel s.free))))
      ∧ (noneWaits → c.cause = some .done → c.toError = false → profile.depth = 0 →
        exec (.stagedReadComplete x []) s = .next (ended r))
      ∧ (∀ n cap, noneWaits → c.cause = some .done → c.toError = false → r.bound = some n →
        (s.order n).state = .open_ → r.capacity = some cap → upto < cap → 0 < profile.depth →
        exec (.stagedReadComplete x []) s = .next (ended { r with
          prefetch := some { running := false, start := upto, target := min profile.depth (cap - upto),
                             profile := profile } }))
      ∧ (∀ q, c.cause ≠ some .done → c.toError = true → r.request = some q →
        (∀ g, s.bus.grant = some g → g.slot ≠ x) → r.base ≠ some .error →
        exec (.stagedReadComplete x []) s = .next ((ended { r with
          base := some .error, capacity := none, addressing := none, buf := none,
          prefetch := none }).raise .slotEvent r.bound
            (b1 (slotNo x).val ++ [4] ++ [orderByte r.bound]
              ++ opt1 (r.lock.map (fun b => if b then 1 else 0))))))
    ∧ (∀ g flips, s.bus.grant = some g → g.slot = x →
      let free := fun t : State => ({ t with bus := { t.bus with grant := none } } : State)
      let put := fun (t : State) (r' : SlotRec) =>
        ({ t with slots := s.slots.set (slotNo x).val r' } : State)
      let failed : Cause := if g.retried then .cardDataError else .cardCrcRetry
      (∀ q, g.stop ≠ none → g.prefetch = false → r.request = some q →
        let err := fun (c : Cause) (block : Option Nat) => s.cardError x q.kind c block
        let ends := fun (i : Instr) (t : State) =>
          exec i s = .next (free (put t { r with request := none, staging := none })).settle
        (s.ctx x = none →
          (g.stage = .reading →
            ends (.cardBlockReceived data true flips) s
            ∧ ends (.cardBlockReceived data false flips) (err failed (some g.next)))
          ∧ (g.stage = .writing →
            exec (.cardCheckToken true flips) s = .next ({ s with bus := { s.bus with
              grant := some { g with stage := .busyHold, timer := some s.now } } } : State)
            ∧ ends (.cardCheckToken false flips) (err failed (some g.next)))
          ∧ (g.stage = .busyHold → ends (.cardBusyRelease flips) s)
          ∧ (g.stage = .reading ∨ g.stage = .busyHold →
            ends (.cardBlockTimeout flips) (err .cardTimeout (some g.next)))
          ∧ (∀ n w, g.stage = .sending (.raw n w) → q.rawLen = 0 → ends (.cardCommandSent flips) s)
          ∧ (∀ c, g.stage = .awaiting c →
            (∀ l, ∀ a ∈ [CardAnswer.damaged, .wrongCommand, .cardError],
              ends (.cardCommandResponse a l flips) (err .cardProtocol none))
            ∧ ends (.cardResponseTimeout flips) (err .cardTimeout none)
            ∧ (∀ l, c = .idReset → ends (.cardCommandResponse .ack l flips) s)
            ∧ (∀ l, c = .idReady → ends (.cardCommandResponse .notReady l flips) s
              ∧ ends (.cardCommandResponse .ready l flips) s)
            ∧ (∀ l record (n : Word32) (ad : Byte), c = .idRecord → record.length = 16 → n ≠ 0 →
              ad = 0 ∧ n.toNat ≤ 8388608 ∨ ad = 1 →
              ends (.cardCommandResponse (.identity record n ad) l flips) s)
            ∧ (∀ l v, c = .status → ends (.cardCommandResponse (.status v) l flips) s)
            ∧ (∀ l n w response, c = .raw n w →
              q.rawLen = 1 ∧ response.length = 4 ∨ q.rawLen = 2 ∧ response.length = 16 →
              ends (.cardCommandResponse (.raw response) l flips) s))
          ∧ (g.readySince ≠ none → g.stage = .sending .idReady ∨ g.stage = .awaiting .idReady →
            ends (.identifyReadyTimeout flips) (err .cardTimeout none)))
        ∧ (∀ c, s.ctx x = some c → g.stage = .reading →
          let room := c.position < (c.chain.map (fun e => e.length)).sum
          let stopped := fun (t : State) (c' : Ctx) => ({ free t with
            ctxs := s.ctxs.set (slotNo x).val (some { c' with cause := some .stopped, moved := [] }) } :
              State)
          exec (.cardBlockReceived data true flips) s = .next (stopped s { c with
            position := c.position + 512, received := c.received + 1,
            buffer := if room then c.buffer ++ [data] else c.buffer,
            discarded := if room then c.discarded else c.discarded + 1 })
          ∧ exec (.cardBlockReceived data false flips) s = .next
            (stopped (err failed (some g.next)) c).settle
          ∧ exec (.cardBlockTimeout flips) s = .next
            (stopped (err .cardTimeout (some g.next)) c).settle))
      ∧ (g.prefetch = true → g.stage = .reading →
        let err := fun c : Cause => s.updBank .card (fun k =>
          k.capture { unit := .slot x, op := .prefetch, cause := c } r.bound (some (.cardBlock g.next)))
        let bare := { r with buf := none, prefetch := none }
        let errored := { bare with base := some .error, capacity := none, addressing := none }
        (g.stop ≠ none → ∀ p, r.prefetch = some p →
          exec (.cardBlockReceived data true flips) s = .next (free (put s { r with
            prefetch := none,
            buf := some (match r.buf with
              | some b => { b with blocks := b.blocks ++ [data] }
              | none => { start := p.start, blocks := [data] }) })))
        ∧ (r.prefetch = none → exec (.cardBlockReceived data true flips) s = .next (free s))
        ∧ (g.stop ≠ none ∨ g.retried = true → exec (.cardBlockReceived data false flips) s = .next
          (free (put (err failed) { r with prefetch := none })))
        ∧ (g.stop = none → g.retried = false → exec (.cardBlockReceived data false flips) s = .next
          ({ err .cardCrcRetry with bus := { s.bus with grant := some { g with
            stage := .sending (.read (if r.addressing = some .byte then g.next * 512 else g.next)),
            retried := true, timer := none } } } : State))
        ∧ (r.request ≠ none ∨ s.part = .halted → exec (.cardBlockTimeout flips) s = .next
          (free (put (err .cardTimeout) bare)))
        ∧ (r.request = none → s.part ≠ .halted → r.base = some .error →
          exec (.cardBlockTimeout flips) s = .next (free (put (err .cardTimeout) errored)))
        ∧ (r.request = none → s.part ≠ .halted → r.base ≠ some .error →
          exec (.cardBlockTimeout flips) s = .next ((free (put (err .cardTimeout) errored)).raise
            .slotEvent r.bound (b1 (slotNo x).val ++ [4] ++ [orderByte r.bound]
              ++ opt1 (r.lock.map (fun b => if b then 1 else 0)))))))

/-! ## The engine lines and the Band Streamers -/

/-- The engine line takes the message that became ready first; when PAGE_OPEN, PAGE_CLOSE or ABANDON has been sent its timer starts, after the last BAND PAGE_CLOSE is made ready, and a host transit message is no longer in flight once it has been sent; a message of an earlier page, behind which the same message of the page that is open still waits, starts nothing (the messages that keep waiting are log 32). -/
def Obligations.EngineLineSendsInOrder : Prop :=
  ∀ (s : State) (e : EngineNo) (m : EngineMsg),
    let g := s.eng e
    let put := fun g' : Engine => ({ s with engines := s.engines.set (engineIdx e).val g' } : State)
    let prof := s.rules.active.engines.get (engineIdx e)
    let timer := fun (k : TimerKind) (len : Nat) =>
      (some { kind := k, length := len, start := s.now } : Option EngineTimer)
    let sent := fun g' : Engine => exec (.engineSendDone e) s = .next (put g').settle
    (∀ rest, g.lineBusy = none → g.lineWait = m :: rest →
      exec (.engineSendStart e) s = .next (put { g with lineBusy := some m, lineWait := rest }))
    ∧ (g.lineBusy = some m →
      (∀ o i c md w r b, m = .pageOpen o i c md w r b →
        (g.state = .opening → (∀ n ∈ g.lineWait, n.isOpen = false) →
          sent { g with lineBusy := none, timer := timer .response prof.response })
        ∧ (g.state ≠ .opening ∨ (∃ n ∈ g.lineWait, n.isOpen = true) →
          sent { g with lineBusy := none }))
      ∧ (∀ k r bs, m = .band k r bs →
        (g.state = .streaming → g.nextBand = g.bandCount →
          (∀ n ∈ g.lineWait, n.isBand = false ∧ n.isOpen = false) →
          sent { g with lineBusy := none, lastSent := some k, state := .closing, timer := none,
                        credits := 0, lineWait := g.lineWait ++ [.pageClose g.bandCount] })
        ∧ (g.state = .streaming → (∀ n ∈ g.lineWait, n.isOpen = false) →
          g.nextBand ≠ g.bandCount ∨ (∃ n ∈ g.lineWait, n.isBand = true) →
          sent { g with lineBusy := none, lastSent := some k })
        ∧ (g.state ≠ .streaming ∨ (∃ n ∈ g.lineWait, n.isOpen = true) →
          sent { g with lineBusy := none }))
      ∧ (∀ n, m = .pageClose n →
        (g.state = .closing → sent { g with lineBusy := none, timer := timer .page prof.page })
        ∧ (g.state ≠ .closing → sent { g with lineBusy := none }))
      ∧ (m = .abandon →
        (g.state = .abandoning → (∀ n ∈ g.lineWait, n.isAbandon = false) →
          sent { g with lineBusy := none, timer := timer .response prof.response })
        ∧ (g.state ≠ .abandoning ∨ (∃ n ∈ g.lineWait, n.isAbandon = true) →
          sent { g with lineBusy := none }))
      ∧ (∀ c b, m = .transit c b → sent { g with lineBusy := none, transit := none }))

/-- While the part is RUNNING and the engine IDLE the head of its queue leaves the queue, its item becomes PRINTING and PAGE_OPEN is made ready for the next copy; the page's bands each have the band rows, but for the last, which has the rest. -/
def Obligations.QueueHeadOpensAPage : Prop :=
  (∀ (s : State) (e : EngineNo) (r : ItemRef) (rest : List ItemRef) (it : Item),
    let g := s.eng e
    let o := s.order r.order
    s.part = .running → s.resetLow = false → g.state = .idle → g.queue = r :: rest →
    o.items[r.item]? = some it → it.state = .queued → 1 ≤ it.bandRows →
    exec (.queueHeadTake e) s = .next ({ s with
      orders := s.orders.set r.order.val ({ o with
        items := o.items.set r.item { it with state := .printing } } : Order),
      engines := s.engines.set (engineIdx e).val ({ g with
        queue := rest, state := .opening, item := some r, copy := some (it.delivered + 1),
        wasted := false, bandCount := (it.rows + it.bandRows - 1) / it.bandRows, nextBand := 0,
        credits := 0, bandRead := none, lastSent := none, timer := none,
        lineWait := g.lineWait ++ [.pageOpen r.order r.item (it.delivered + 1) it.media it.width
          it.rows it.bandRows] } : Engine) } : State))
  ∧ ∀ it : Item, 1 ≤ it.bandRows → 1 ≤ it.rows →
    1 ≤ it.bandCount ∧ (it.bandCount - 1) * it.bandRows < it.rows ∧ it.rows ≤ it.bandCount * it.bandRows
      ∧ (∀ k, k + 1 < it.bandCount → it.rowsOf k = it.bandRows)
      ∧ it.rowsOf (it.bandCount - 1) = it.rows - (it.bandCount - 1) * it.bandRows
      ∧ it.bandOffset 0 = it.offset + it.skip
      ∧ (∀ k, k + 1 < it.bandCount → it.bandOffset (k + 1) = it.bandOffset k + it.bandLength k)
      ∧ it.bandOffset (it.bandCount - 1) + it.bandLength (it.bandCount - 1)
          = it.offset + it.skip + it.width * 3 * it.rows

/-- A CREDIT of 1 to 4 in OPENING or STREAMING adds to the credits, up to 4 with an ENGINE_PROTOCOL error beyond, stops the response timer, makes the engine STREAMING and begins the next band's read; it is discarded in OFFLINE, CLOSING and ABANDONING and is a protocol error in IDLE and FAULTED. A CREDIT of another n is malformed, in every state (log 52). -/
def Obligations.CreditsLetBandsThrough : Prop :=
  ∀ (s : State) (e : EngineNo), s.resetLow = false →
    let g := s.eng e
    let put := fun (t : State) (g' : Engine) =>
      ({ t with engines := t.engines.set (engineIdx e).val g' } : State)
    let err := s.updBank .print (fun b =>
      b.capture { unit := .engine e, op := .engineIn g.state, cause := .engineProtocol }
        (g.item.map (fun r => r.order)) none)
    (∀ (bytes : Bytes) (n : Nat), engineIn bytes = some (.credit n) →
      let run := exec (.credit e bytes) s
      let g1 := { g with credits := min 4 (g.credits + n), timer := none, state := .streaming }
      let g2 := if g.bandRead = none ∧ g.stale = none ∧ g.nextBand < g.bandCount then
          { g1 with bandRead := some g.nextBand } else g1
      1 ≤ n ∧ n ≤ 4
      ∧ (g.state = .opening ∨ g.state = .streaming →
        (g.credits + n ≤ 4 → run = .next (put s g2))
        ∧ (4 < g.credits + n → run = .next (put err g2)))
      ∧ (g.state = .offline ∨ g.state = .closing ∨ g.state = .abandoning → run = .next s)
      ∧ (g.state = .faulted → run = .next err)
      ∧ (g.state = .idle → run = .next (put err { g with timer := some {
          kind := .response, length := (s.rules.active.engines.get (engineIdx e)).response,
          start := s.now } })))
    ∧ (∀ (z m : Byte) (body : Bytes), m.toNat < 1 ∨ 4 < m.toNat →
      exec (.engineMessageMalformed ⟨e, engineBytes 0 z 0x0180 (m :: body) []⟩) s = .next
        (put err { g with upMsg := none }).settle)

/-- A band read that ends with OK takes one credit and makes BAND ready with the band's rows and the bytes of the window, and the next read begins or, with no credit left, the response timer starts (the access counts as taken here, log 55; no bulk request of the order is in progress); a band on a poisoned page reports BAND_SOURCE_POISONED, wastes the copy and abandons the page. A read left to end after its copy was settled gives the engine no band (R137, R143): its bytes are discarded, a double error it meets poisons the page and is captured as any read's, no PRINT error is reported, of an order closed meanwhile it reads nothing, and the read that waited for its end begins (the model's choice, log 34). -/
def Obligations.BandReadsFeedTheEngine : Prop :=
  (∀ (s : State) (e : EngineNo) (r : ItemRef) (it : Item) (k : Nat),
    let g := s.eng e
    let map := (s.order r.order).map
    g.state = .streaming → g.stale = none → g.bandRead = some k → g.nextBand = k →
    g.item = some r → (s.order r.order).items[r.item]? = some it →
    it.bandOffset k + it.bandLength k ≤ windowSize map →
    (∀ x ∈ map, s.hasPage x.page = true) → s.smc.ecc = [] →
    (∀ b, s.smc.bulk = some b → b.order = r.order → b.result ≠ none) →
    let put := fun g' : Engine => ({ s with engines := s.engines.set (engineIdx e).val g' } : State)
    ((∀ x ∈ map, x.poisoned = false) → ∃ raster : Bytes, raster.length = it.bandLength k
      ∧ (∀ i, i < it.bandLength k → ∃ x, map[(it.bandOffset k + i) / 65536]? = some x
          ∧ raster[i]? = some (s.smc.dram.read (x.page * 65536 + (it.bandOffset k + i) % 65536)))
      ∧ exec (.bandReadEnd e []) s = .next (put { g with
          credits := g.credits - 1, nextBand := k + 1,
          lineWait := g.lineWait ++ [.band k (it.rowsOf k) raster],
          bandRead := if 1 < g.credits ∧ k + 1 < g.bandCount then some (k + 1) else none,
          timer := if g.credits ≤ 1 ∧ k + 1 < g.bandCount then some {
              kind := .response, length := (s.rules.active.engines.get (engineIdx e)).response,
              start := s.now }
            else g.timer }).settle)
    ∧ (∀ off x, s.eccOn = true → it.bandOffset k ≤ off → off < it.bandOffset k + it.bandLength k →
        map[off / 65536]? = some x → x.poisoned = true → g.wasted = false →
      ∃ t : State, exec (.bandReadEnd e []) s = .next t.settle
        ∧ t = { s with orders := t.orders, engines := t.engines, banks := t.banks }
        ∧ t.bank .print = (s.bank .print).capture
            { unit := .engine e, op := .engineIn .streaming, cause := .bandSourcePoisoned }
            (some r.order) (some (.band k))
        ∧ (∀ b, b ≠ .print → t.bank b = s.bank b)
        ∧ t.eng e = { g with
            state := .abandoning, wasted := true, bandRead := none, timer := none, credits := 0,
            lineWait := g.lineWait.filter (fun m => !m.isBand) ++ [.abandon] }
        ∧ (∀ d, d ≠ e → t.eng d = s.eng d)
        ∧ (∀ n, n ≠ r.order → t.order n = s.order n)
        ∧ t.order r.order = { s.order r.order with
            items := (s.order r.order).items.set r.item { it with wasted := min 65535 (it.wasted + 1) } }))
  ∧ ∀ (s : State) (e : EngineNo) (st : StaleRead), (s.eng e).stale = some st →
    let g := s.eng e
    let map := (s.order st.order).map
    let ended := ({ s with engines := s.engines.set (engineIdx e).val ({ g with
      stale := none,
      bandRead :=
        if g.state = .streaming ∧ 0 < g.credits ∧ g.bandRead = none ∧ g.nextBand < g.bandCount then
          some g.nextBand
        else g.bandRead } : Engine) } : State)
    (st.lost = true → ∀ upsets, exec (.bandReadEnd e upsets) s = .next ended)
    ∧ (st.lost = false → st.offset + st.length ≤ windowSize map →
      (∀ x ∈ map, s.hasPage x.page = true) → s.smc.ecc = [] →
      (∀ b, s.smc.bulk = some b → b.order = st.order → b.result ≠ none) →
      exec (.bandReadEnd e []) s = .next ended.settle
      ∧ ∀ off x, s.eccOn = true → g.bandRead = none → st.offset ≤ off → off < st.offset + st.length →
        (∀ y ∈ map, y.poisoned = false) → (map.map (fun y => y.page)).Nodup →
        map[off / 65536]? = some x →
        let word := off / 4 * 4
        let code : ErrCode := { unit := .smc, op := .bandRead, cause := .eccUncorrected }
        ∃ t, exec (.bandReadEnd e [{ offset := off, err := .double }]) s = .next t
          ∧ (t.eng e).stale = none ∧ t.smc.dram = s.smc.dram
          ∧ (t.order st.order).map = map.set (off / 65536) { x with poisoned := true }
          ∧ (t.order st.order).faultRec
              = some ((s.order st.order).faultRec.getD { code := code, offset := word })
          ∧ t.bank .staging
              = (s.bank .staging).capture code (some st.order) (some (.window word x.page))
          ∧ ∀ k, k ≠ .staging → t.bank k = s.bank k)

/-- How a page ends: PRINTED, FAULT and the timers while its copy is open, ABANDONED, FAULT and the response timer while it is being abandoned, each with the copy outcome and the last fault cause (OTHER for a timeout of an open copy) in its ENGINE_EVENT and with its ITEM_EVENT; the next copy opens with its ENGINE_EVENT alone; and what PRINTED, FAULT, ABANDONED and the timers do where no page ends: protocol errors in the states R133 names, a FAULT in IDLE (a DATA_ERROR there is a protocol error, log 52) and the idle timeout, which return the queue. The model's choices: ENGINE_EVENT comes before the ITEM_EVENTs (log 50); the outcome of a page in CLOSING that the entry to HALTED has marked wasted is WASTED_ABANDONED (log 30); a STREAMING timeout before a band was sent has no address (log 59); the messages that wait for the line keep waiting (log 32); while a band is read the read is left to end (log 34), which is not spoken of here. -/
def Obligations.PagesEndByOutcomeFaultOrTimeout : Prop :=
  ∀ (s : State) (e : EngineNo) (printed abandoned : Bytes) (fault : FaultCause → Bytes),
    s.resetLow = false → engineIn printed = some .printed → engineIn abandoned = some .abandoned →
    (∀ c, engineIn (fault c) = some (.fault c)) →
    let g := s.eng e
    let put := fun (t : State) (g' : Engine) =>
      ({ t with engines := t.engines.set (engineIdx e).val g' } : State)
    let err := fun (c : Cause) (band : Option Nat) => s.updBank .print (fun b =>
      b.capture { unit := .engine e, op := .engineIn g.state, cause := c }
        (g.item.map (fun r => r.order)) (band.map ErrAddr.band))
    let running := fun k => ∃ t : EngineTimer, g.timer = some t ∧ t.kind = k
    let after := fun c : FaultCause => if c = .dataError then EngineState.idle else .faulted
    (∀ (r : ItemRef) (it : Item), g.item = some r → g.bandRead = none → r ∉ g.queue →
      (s.order r.order).items[r.item]? = some it → it.state = .printing →
      let cancels := (s.order r.order).state = .cancelling
      let fails : ItemState := if cancels then .withdrawn else .held
      let ends := fun (i : Instr) (s0 : State) (st : EngineState) (it' : Item)
          (outcome : CopyOutcome) (last : Option FaultCause) =>
        ∃ t, exec i s = .next t ∧ s0.PageEnds e r st it' outcome last t
      let lost := fun it : Item =>
        { it with state := fails, wasted := if g.wasted then it.wasted else min 65535 (it.wasted + 1) }
      (g.state = .closing → g.wasted = true → ends (.printed ⟨e, printed⟩) s .idle
        { it with state := fails } .wastedAbandoned g.lastFault)
      ∧ (g.state = .closing → g.wasted = false → it.delivered + 1 = it.copies →
        ends (.printed ⟨e, printed⟩) s .idle { it with state := .done, delivered := it.delivered + 1 }
          .delivered g.lastFault)
      ∧ (g.state = .closing → g.wasted = false → it.delivered + 1 ≠ it.copies → cancels →
        ends (.printed ⟨e, printed⟩) s .idle
          { it with state := .withdrawn, delivered := it.delivered + 1 } .delivered g.lastFault)
      ∧ (g.state = .closing → g.wasted = false → it.delivered + 1 ≠ it.copies → ¬ cancels →
        1 ≤ it.bandRows →
        ∃ t : State, exec (.printed ⟨e, printed⟩) s = .next t
          ∧ t = { s with orders := t.orders, engines := t.engines, link := t.link }
          ∧ t.link = (s.copyEnded e r .opening g.lastFault .delivered).link
          ∧ (∀ n, n ≠ r.order → t.order n = s.order n)
          ∧ t.order r.order = { s.order r.order with
              items := (s.order r.order).items.set r.item { it with delivered := it.delivered + 1 } }
          ∧ (∀ d, d ≠ e → t.eng d = s.eng d)
          ∧ t.eng e = { g with
              state := .opening, copy := some (it.delivered + 2), wasted := false,
              bandCount := (it.rows + it.bandRows - 1) / it.bandRows, nextBand := 0, credits := 0,
              lastSent := none, timer := none,
              lineWait := g.lineWait ++ [.pageOpen r.order r.item (it.delivered + 2) it.media it.width
                it.rows it.bandRows] })
      ∧ (g.state = .opening ∨ g.state = .streaming ∨ g.state = .closing → ∀ c,
        ends (.fault e (fault c)) s (after c) (lost it) (.wastedFault c) (some c))
      ∧ (g.state = .abandoning → ∀ c,
        ends (.fault e (fault c)) s (after c) { it with state := fails } .wastedAbandoned (some c))
      ∧ (g.state = .abandoning → ends (.abandoned ⟨e, abandoned⟩) s .idle
        { it with state := fails } .wastedAbandoned g.lastFault)
      ∧ (g.state = .opening → running .response →
        ends (.engineResponseTimeout e) (err .engineTimeout none) .faulted (lost it)
          .wastedTimeout (some .other))
      ∧ (g.state = .streaming → running .response →
        ends (.engineResponseTimeout e) (err .engineTimeout g.lastSent) .faulted (lost it)
          .wastedTimeout (some .other))
      ∧ (g.state = .abandoning → running .response →
        ends (.engineResponseTimeout e) (err .engineTimeout none) .faulted { it with state := fails }
          .wastedAbandoned g.lastFault)
      ∧ (g.state = .closing → running .page →
        ends (.pageTimeout e) (err .engineTimeout g.lastSent) .faulted (lost it)
          .wastedTimeout (some .other)))
    ∧ (let restarted := put (err .engineProtocol none) { g with timer := some {
          kind := .response, length := (s.rules.active.engines.get (engineIdx e)).response,
          start := s.now } }
      let gone := if s.part = .halted then [] else g.queue
      let leaves := fun (i : Instr) (g' : Engine) => ∃ t : State, exec i s = .next t
        ∧ t = { s with orders := t.orders, engines := t.engines, link := t.link }
        ∧ t.eng e = { g' with queue := if s.part = .halted then g.queue else [] }
        ∧ (∀ d, d ≠ e → t.eng d = s.eng d)
        ∧ s.EntriesReturn gone t
        ∧ s.EngineNotices e g' gone t
      (g.state = .idle →
        exec (.printed ⟨e, printed⟩) s = .next restarted ∧ exec (.abandoned ⟨e, abandoned⟩) s = .next restarted
        ∧ exec (.fault e (fault .dataError)) s = .next restarted
        ∧ (∀ c, c ≠ .dataError →
          leaves (.fault e (fault c)) { g with state := .faulted, lastFault := some c, timer := none })
        ∧ (running .response →
          leaves (.engineIdleTimeout e) { g with state := .offline, ready := false, timer := none })))
    ∧ (g.state = .offline → ∀ c, exec (.printed ⟨e, printed⟩) s = .next s
      ∧ exec (.fault e (fault c)) s = .next s ∧ exec (.abandoned ⟨e, abandoned⟩) s = .next s)
    ∧ (g.state ∈ [.opening, .streaming, .abandoning, .faulted] →
      exec (.printed ⟨e, printed⟩) s = .next (err .engineProtocol none))
    ∧ (g.state ∈ [.opening, .streaming, .closing, .faulted] →
      exec (.abandoned ⟨e, abandoned⟩) s = .next (err .engineProtocol none))
    ∧ (g.state = .faulted → ∀ c, ∃ t : State, exec (.fault e (fault c)) s = .next t
      ∧ t = { put s { g with lastFault := some c } with link := t.link }
      ∧ s.EngineNotices e { g with lastFault := some c } [] t)

/-- A status report sets the ready flag and the loaded media and moves the engine by the table of R144; a change of the state or of the media raises ENGINE_EVENT; the entries that leave, all of them where an IDLE engine becomes OFFLINE and those of another media where the media changes, become PENDING with an ITEM_EVENT each, but none while the part is HALTED (R127). ENGINE_EVENT comes first (the model's order, log 50). A report of another form is not observed. That the row is the observation, and ENGINE_TRANSIT_UP what becomes of the message, is log 31. -/
def Obligations.StatusReportsAreObserved : Prop :=
  ∀ (s : State) (e : EngineNo) (bytes body : Bytes), s.resetLow = false →
    engineIn bytes = some (.transit 1 body) →
    let g := s.eng e
    let seen := g.upMsg.map (fun m => { m with observed := true })
    let run := exec (.engineStatusReport e bytes) s
    (∀ (r md : Byte) (more : Bytes), body = r :: md :: more → r.toNat < 2 →
      let ready := r.toNat = 1
      let media := if md.toNat ≤ 15 then some md.toNat else none
      let st : EngineState := match g.state with
        | .offline => if ready then .idle else .offline
        | .idle => if ready then .idle else .offline
        | .faulted => if ready then .idle else .faulted
        | .opening => .opening
        | .streaming => .streaming
        | .closing => .closing
        | .abandoning => .abandoning
      let other := fun q : ItemRef =>
        !((s.order q.order).items[q.item]?).any (fun it => some it.media == media)
      let gone : List ItemRef :=
        if s.part = .halted then []
        else if g.state = .idle ∧ st = .offline then g.queue
        else if media ≠ g.media then g.queue.filter other
        else []
      let g1 : Engine := { g with
        ready := r.toNat == 1, media := media, state := st,
        timer := if st = .idle then some {
            kind := .response, length := (s.rules.active.engines.get (engineIdx e)).response,
            start := s.now }
          else if st = .offline then none else g.timer }
      ∃ t : State, run = .next t
        ∧ t = { s with orders := t.orders, engines := t.engines, link := t.link }
        ∧ t.eng e = { g1 with queue := g.queue.filter (fun q => !gone.contains q), upMsg := seen }
        ∧ (∀ d, d ≠ e → t.eng d = s.eng d)
        ∧ s.EntriesReturn gone t
        ∧ (st ≠ g.state ∨ media ≠ g.media → s.EngineNotices e g1 gone t)
        ∧ (st = g.state → media = g.media → t.link = s.link ∧ t.orders = s.orders))
    ∧ ((body.length < 2 ∨ ∀ r, body.head? = some r → 2 ≤ r.toNat) →
      run = .next ({ s with
        engines := s.engines.set (engineIdx e).val ({ g with upMsg := seen } : Engine) } : State))

/-- The messages of the engine line are read back from their bytes, and bytes that R131 and R207 call malformed are no message (the codes 0100h to 0103h from an engine among them: the model's reading, log 61). Engine transit traffic: a message from the engine is in flight from its first byte, is passed under its generation's rules to the upstream queue with its bytes as received, dropped, held while the queue has no room, or discarded outside RUNNING, and one completed while another is held is classified in RUNNING and then discarded with ENGINE_PROTOCOL (this order is the model's reading, log 72); a malformed one is discarded with ENGINE_PROTOCOL and does not restart the idle timer (the model's choice, log 35); a host message is checked in the sequence of R145, and an admitted one is made ready for the line. -/
def Obligations.EngineTransitTrafficIsClassified : Prop :=
  (∀ (z : Byte) (code : Nat) (body : Bytes), code < 65536 → body.length ≤ 2040 →
    let reads := fun cls : Nat => engineIn (engineBytes cls z code body [])
    reads 1 = some (.transit (BitVec.ofNat 16 code) body)
    ∧ (∀ cls, 2 ≤ cls → cls < 256 → reads cls = none)
    ∧ (code ∉ [0x0180, 0x0181, 0x0182, 0x0183] → reads 0 = none)
    ∧ (code = 0x0180 → reads 0 = body.head?.bind (fun n =>
        if 1 ≤ n.toNat ∧ n.toNat ≤ 4 then some (.credit n.toNat) else none))
    ∧ (code = 0x0181 → reads 0 = some .printed)
    ∧ (code = 0x0182 → reads 0 = body.head?.bind (fun c => (faultOf c.toNat).map EngineIn.fault))
    ∧ (code = 0x0183 → reads 0 = some .abandoned))
  ∧ (∀ bytes : Bytes,
    let m := bytes.take (bytes.length - 2)
    (beNat (bytes.drop (bytes.length - 2)) ≠ (crc16 m).toNat → engineIn bytes = none)
    ∧ (bytes.length < 8 → engineIn bytes = none)
    ∧ (∀ k z c0 c1 l0 l1 body, m = k :: z :: c0 :: c1 :: l0 :: l1 :: body →
      beNat [l0, l1] ≠ body.length ∨ 2040 < body.length → engineIn bytes = none))
  ∧ ∀ (s : State) (e : EngineNo),
    let g := s.eng e
    let put := fun (t : State) (g' : Engine) =>
      ({ t with engines := t.engines.set (engineIdx e).val g' } : State)
    let err := fun t : State => t.updBank .print (fun b =>
      b.capture { unit := .engine e, op := .engineIn (t.eng e).state, cause := .engineProtocol }
        ((t.eng e).item.map (fun r => r.order)) none)
    (s.resetLow = false → g.upMsg = none → exec (.engineMessageBegin e) s = .next
      (put s { g with upMsg := some { gen := s.portGen (.enginePort e), observed := false } }))
    ∧ (∀ bytes, s.resetLow = false → engineIn bytes = none →
      exec (.engineMessageMalformed ⟨e, bytes⟩) s = .next (put (err s) { g with upMsg := none }).settle)
    ∧ (∀ (head content check : Bytes) (code : Word16) (body : Bytes) (m : UpMsg), s.resetLow = false →
      let bytes := head ++ content ++ check
      engineIn bytes = some (.transit code body) → g.upMsg = some m → code ≠ 1 ∨ m.observed = true →
      let s1 := s.touchIdle e
      let run := exec (.engineTransitUp e head content check []) s
      let leaves := fun t : State => (put t { t.eng e with upMsg := none }).settle
      let up : UpFrame := {
        chan := 6 + (engineIdx e).val, kind := .transit, order := 0xFF, fip := s.fip, tag := 0,
        payload := bytes }
      (g.upHeld = true → ∀ flips,
        let late := exec (.engineTransitUp e head content check flips) s
        (s.part ≠ .running → late = .next (leaves (err s1)))
        ∧ (s.part = .running →
          let u := ((s1.flipBits flips).classify m.gen (engineMsg true code)).1
          late = .next (leaves (err u))))
      ∧ (g.upHeld = false → s.part ≠ .running → run = .next (leaves s1))
      ∧ ∀ v, g.upHeld = false → s.part = .running → s1.classify m.gen (engineMsg true code) = (s1, v) →
        (v.passes = false ∨ s.link.state ≠ .up → run = .next (leaves s1))
        ∧ (v.passes = true → s.Accepts 1 → run = .next (leaves { s1 with
            link := { s1.link with upQueue := s1.link.upQueue ++ [up] } }))
        ∧ (v.passes = true → s.link.state = .up → s.room = false ∨ s.link.waiting ≠ [] →
          run = .next (put { s1 with link := { s1.link with
              waiting := s1.link.waiting ++ [{ owner := .engineUp e, frame := up }] } }
            { s1.eng e with upMsg := none, upHeld := true }).settle))
    ∧ (∀ (f : DownFrame) (s1 : State) (flips : List ParityFlip), s.Takes (.engineDown e) f s1 →
      let refused := fun (u : State) (st : Status) => exec (.engineTransitDown flips) s = .next
        (u.place { chan := f.chan, kind := .refusal, order := f.order, fip := u.fip, tag := f.tag,
                   payload := b1 st.code }).settle
      (s1.part = .unconfigured ∨ s1.part = .training → refused s1 .notReady)
      ∧ (s1.part = .halted → refused s1 .halted)
      ∧ (s1.part = .running →
        (f.payload.length < 6 → refused s1 .badRequest)
        ∧ ∀ (k z c0 c1 l0 l1 : Byte) (body : Bytes), f.payload = [k, z, c0, c1, l0, l1] ++ body →
          (k ≠ 1 ∨ z ≠ 0 ∨ beNat [l0, l1] ≠ body.length ∨ 2040 < body.length → refused s1 .badRequest)
          ∧ (k = 1 → z = 0 → beNat [l0, l1] = body.length → body.length ≤ 2040 →
            let code : Word16 := BitVec.ofNat 16 (beNat [c0, c1])
            let gen := s1.portGen (.enginePort e)
            let c := (s1.flipBits flips).classify gen (engineMsg false code)
            let u := c.1
            (c.2 = .invalid → refused u .rulesInvalid)
            ∧ ∀ a i cls am, c.2 = .found a i cls am →
              (a = .refuse → refused u .refusedByRule)
              ∧ (a ≠ .refuse → (u.eng e).transit.isSome → refused u .portBusy)
              ∧ ((u.eng e).transit = none → a = .passIdle →
                  (u.eng e).state ∈ [.opening, .streaming, .closing, .abandoning] → refused u .busy)
              ∧ ((u.eng e).transit = none → a = .passPermit →
                  (∀ n, orderOfByte f.order = some n → (u.order n).live = true →
                    (u.order n).permits.engineService = false) → refused u .permitMissing)
              ∧ ((u.eng e).transit = none → a ≠ .refuse →
                  (a = .passIdle → (u.eng e).state ∈ [.offline, .idle, .faulted]) →
                  (a = .passPermit → ∃ n, orderOfByte f.order = some n ∧ (u.order n).live = true
                    ∧ (u.order n).permits.engineService = true) →
                  exec (.engineTransitDown flips) s = .next
                    (put u { u.eng e with
                      transit := some gen,
                      lineWait := (u.eng e).lineWait ++ [.transit code body] }).settle))))

/-! ## Payment -/

/-- A host payment message is checked for its length, its rules, its order, the monitor, the permit, its class, its amount and the room in the transmit FIFO, in that order; one with a class makes its order pending and binds the monitor, one without only goes out. The room is what is left once the bytes of the oldest message that have gone out (an operand, log 36) have left the FIFO; the message that has been sent leaves it whole. A message held in the buffer is handled so while the link is not UP as well (the model's reading, log 68). -/
def Obligations.PaymentMessagesAreAdmittedByClass : Prop :=
  (∀ (s : State) (m : TxMsg) (rest : List TxMsg), s.pay.tx = m :: rest →
    exec .paymentMessageSent s = .next ({ s with pay := { s.pay with tx := rest } } : State).settle)
  ∧ (∀ (s : State) (left : Nat) (m : TxMsg) (rest : List TxMsg), s.pay.tx = m :: rest →
    s.lineSends left = { s with pay := { s.pay with
      tx := { m with bytes := m.bytes.drop (min left (m.bytes.length - 1)) } :: rest } })
  ∧ (∀ (s : State) (left : Nat), s.pay.tx = [] → s.lineSends left = s)
  ∧ ∀ (s : State) (f : DownFrame) (s0 : State) (left : Nat) (flips : List ParityFlip),
    s.Takes .payDown f s0 →
    let s1 := s0.lineSends left
    let gen := s1.portGen .payDown
    let c := (s1.flipBits flips).classify gen (payMsg false (s1.imageOf gen).pay f.payload)
    let u := c.1
    let run := exec (.paymentTransitDown left flips) s
    let refused := fun (t : State) (st : Status) => run = .next
      (t.place { chan := 8, kind := .refusal, order := f.order, fip := t.fip, tag := f.tag,
                 payload := b1 st.code }).settle
    (s1.part = .unconfigured ∨ s1.part = .training → refused s1 .notReady)
    ∧ (s1.part = .halted → refused s1 .halted)
    ∧ (s1.part = .running → f.payload.length < 1 ∨ 256 < f.payload.length → refused s1 .badRequest)
    ∧ (s1.part = .running → 1 ≤ f.payload.length → f.payload.length ≤ 256 →
      (c.2 = .invalid → refused u .rulesInvalid)
      ∧ ∀ a i cls amount, c.2 = .found a i cls amount →
        (a = .refuse → refused u .refusedByRule)
        ∧ (a ≠ .refuse → orderOfByte f.order = none → refused u .noOrder)
        ∧ ∀ n, a ≠ .refuse → orderOfByte f.order = some n →
          let o := u.order n
          let fits := (u.pay.tx.map (fun m => m.bytes.length)).sum + f.payload.length ≤ 256
          let tx := u.pay.tx ++ [{ bytes := f.payload, gen := gen }]
          let value := match amount with
            | .value v => v
            | .absent | .unreadable => 0
          (o.state = .free → refused u .noOrder)
          ∧ (o.state = .closing → refused u .orderState)
          ∧ (o.live = true →
            (a = .passIdle → u.pay.monitor ≠ none → refused u .terminalBusy)
            ∧ ((a = .passIdle → u.pay.monitor = none) → a = .passPermit ∨ cls = 4 →
              o.permits.paymentRefund = false → refused u .permitMissing)
            ∧ ((a = .passIdle → u.pay.monitor = none) →
              (a = .passPermit ∨ cls = 4 → o.permits.paymentRefund = true) →
              (cls = 0 →
                (¬ fits → refused u .portBusy)
                ∧ (fits → run = .next
                    ({ u with pay := { u.pay with tx := tx } } : State).settle))
              ∧ (∀ k, payClassOf cls = some k →
                let admits : Prop := match k with
                  | .authorise => o.pay.state = .none_ ∨ o.pay.state = .declined
                  | .capture => o.pay.state = .authorised
                      ∧ ∀ it ∈ o.items, it.state ≠ .queued ∧ it.state ≠ .printing
                  | .void_ => o.pay.state = .authorised
                      ∧ ∀ it ∈ o.items, it.state ≠ .queued ∧ it.state ≠ .printing ∧ it.delivered = 0
                  | .refund => o.pay.state = .captured
                let within : Prop := match k with
                  | .authorise | .void_ => True
                  | .capture => value ≤ o.pay.authorised ∧ value ≤ o.due
                  | .refund => o.pay.refunded + value ≤ o.pay.captured
                let pend : PayState := match k with
                  | .authorise => .requested
                  | .capture => .capturePending
                  | .void_ => .voidPending
                  | .refund => .refundPending
                (u.pay.monitor ≠ none → refused u .terminalBusy)
                ∧ (u.pay.monitor = none →
                  (k = .authorise → o.state ≠ .open_ → refused u .orderState)
                  ∧ ((k = .authorise → o.state = .open_) →
                    (¬ admits → refused u .payState)
                    ∧ (admits →
                      (amount = .unreadable → refused u .amountInvalid)
                      ∧ (amount ≠ .unreadable →
                        (¬ within → refused u .amountLimit)
                        ∧ (within → ¬ fits → refused u .portBusy)
                        ∧ (within → fits → run = .next ({ u with
                          orders := u.orders.set n.val
                            ({ o with pay := { o.pay with state := pend } } : Order),
                          pay := { u.pay with
                            tx := tx,
                            monitor := some {
                              order := n, cls := k,
                              amount := match amount with
                                | .value v => some v
                                | .absent | .unreadable => none,
                              prior := if k = .authorise then some o.pay.state else none,
                              length := (u.imageOf gen).pay.timeout, start := u.now } } } :
                          State).settle)))))))))

/-- A received byte joins the receive FIFO with its damage mark and the mark of a gap before it (the model's mechanism for the gaps of R155 to R157, log 37), or overflows it with RX_OVERFLOW (reported each time, while the framer resynchronises too: the model's choice, log 76); the framer takes the oldest byte and completes a message at its length or after its end byte, and a message that is damaged, too long or interrupted by 20 ms of silence is discarded with MESSAGE_MALFORMED and the framer resynchronises. -/
def Obligations.FramerAssemblesMessages : Prop :=
  ∀ (s : State),
    let f := s.pay.framer
    let profile := (s.imageOf (s.portGen .payUp)).pay
    let lost := fun (t : State) (c : Cause) => t.updBank .payment (fun b =>
      b.capture { unit := .paymentLine, op := .receive, cause := c }
        (t.pay.monitor.map (fun m => m.order)) none)
    let again : Framer := { f with mode := .resync, profile := profile, gen := s.portGen .payUp,
                                   msg := [], trail := none }
    (∀ b damaged, s.resetLow = false → s.pay.rx.length < 256 →
      exec (.paymentRxByte b damaged) s = .next { s with pay := { s.pay with
        rx := s.pay.rx ++ [{ byte := b, damaged := damaged, afterGap := s.pay.lineIdle }],
        lineIdle := false } })
    ∧ (∀ b damaged, s.resetLow = false → 256 ≤ s.pay.rx.length → f.complete = false →
      exec (.paymentRxByte b damaged) s = .next
        ({ lost s .rxOverflow with pay := { s.pay with rx := [], lineIdle := false, framer := again } } :
          State).settle)
    ∧ (s.resetLow = false → s.pay.rx = [] → f.complete = false → f.held = false →
      let t : State := { s with pay := { s.pay with lineIdle := true } }
      (f.mode = .inMessage → exec .interByteTimeout s = .next
        ({ lost s .messageMalformed with pay := { s.pay with lineIdle := true, framer := again } } :
          State).settle)
      ∧ (f.mode ≠ .inMessage → exec .interByteTimeout s = .next t)
      ∧ (f.mode = .resync → f.profile.framing = 0 → exec .resyncIdleGap s = .next
        { s with pay := { s.pay with lineIdle := true, framer :=
          { mode := .waiting, profile := profile, gen := s.portGen .payUp, msg := [], trail := none,
            complete := false, held := false } } })
      ∧ (f.mode ≠ .resync ∨ f.profile.framing ≠ 0 → exec .resyncIdleGap s = .next t))
    ∧ (∀ (b : RxByte) (rest : List RxByte), s.pay.rx = b :: rest → f.complete = false → f.held = false →
      let set := fun f' : Framer =>
        ({ s with pay := { s.pay with rx := rest, framer := f' } } : State)
      let bad := ({ lost s .messageMalformed with pay := { s.pay with rx := rest, framer := again } } :
        State).settle
      let more := fun f' : Framer => if s.pay.lineIdle = true ∧ rest = [] then bad else set f'
      let msg := f.msg ++ [b.byte]
      (f.mode = .inMessage → b.afterGap = false → b.damaged = true → exec .framerTakeByte s = .next bad)
      ∧ (b.damaged = false → f.profile.framing = 0 → f.mode = .waiting ∨ f.mode = .inMessage →
        (f.mode = .inMessage → b.afterGap = false) →
        let head := f.profile.lenOffset + f.profile.lenWidth
        let len : Int := beNat ((msg.drop f.profile.lenOffset).take f.profile.lenWidth)
          + f.profile.lenAdjust
        (msg.length < head → exec .framerTakeByte s = .next
          (more { f with mode := .inMessage, msg := msg, trail := none }))
        ∧ (head ≤ msg.length → len < head ∨ 256 < len → exec .framerTakeByte s = .next bad)
        ∧ (head ≤ msg.length → (head : Int) ≤ len → len ≤ 256 → (msg.length : Int) ≠ len →
          exec .framerTakeByte s = .next (more { f with mode := .inMessage, msg := msg, trail := none }))
        ∧ (head ≤ msg.length → (head : Int) ≤ len → len ≤ 256 → (msg.length : Int) = len →
          exec .framerTakeByte s = .next
            (set { f with mode := .inMessage, msg := msg, trail := none, complete := true })))
      ∧ (f.profile.framing ≠ 0 → f.mode ≠ .inMessage →
        b.damaged = true ∨ b.byte ≠ f.profile.startByte → exec .framerTakeByte s = .next (set f))
      ∧ (b.damaged = false → f.profile.framing ≠ 0 → f.mode ≠ .inMessage → f.msg = [] →
        f.trail = none → b.byte = f.profile.startByte → exec .framerTakeByte s = .next
          (more { f with mode := .inMessage, msg := [b.byte] }))
      ∧ (b.damaged = false → b.afterGap = false → f.profile.framing ≠ 0 → f.mode = .inMessage →
        f.msg ≠ [] →
        let left : Option Nat := match f.trail with
          | some t => some (t - 1)
          | none => if b.byte = f.profile.endByte then some f.profile.trailing else none
        (left = some 0 → exec .framerTakeByte s = .next
          (set { f with mode := .inMessage, msg := msg, trail := none, complete := true }))
        ∧ (left ≠ some 0 → 256 ≤ msg.length → exec .framerTakeByte s = .next bad)
        ∧ (left ≠ some 0 → msg.length < 256 → exec .framerTakeByte s = .next
          (more { f with mode := .inMessage, msg := msg, trail := left }))))

/-- A complete terminal message is classified under its generation: an outcome sets the bound order's payment record by the table of outcomes or makes it UNKNOWN with its cause (WRONG_CLASS before AMOUNT_UNREADABLE, log 53), frees the monitor and raises PAYMENT_EVENT, LATE_OUTCOME is reported when none awaits, and the message is forwarded with the bound order unless it is dropped; outside RUNNING it is discarded; the monitor's timer makes the order UNKNOWN. TERMINAL_MESSAGE_COMPLETE is the moment at which the message is complete (the model's choice, log 69). -/
def Obligations.OutcomesSettlePayments : Prop :=
  ∀ (s : State),
    let f := s.pay.framer
    let wait : Framer := {
      mode := .waiting, profile := (s.imageOf (s.portGen .payUp)).pay, gen := s.portGen .payUp,
      msg := [], trail := none, complete := false, held := false }
    let up := fun (o : Option OrderNo) => ({
      chan := 8, kind := .transit, order := orderByte o, fip := s.fip, tag := 0, payload := f.msg } :
        UpFrame)
    let event := fun (m : Awaiting) (p : PayRec) (outcome : Nat) (why : Bytes) =>
      ({ s with
          orders := s.orders.set m.order.val
            (rearm (s.order m.order) { s.order m.order with pay := p }),
          pay := { s.pay with monitor := none } } : State).raise .paymentEvent (some m.order)
        ([orderByte (some m.order)] ++ toBytes 4 (s.order m.order).tag.toNat ++ b1 p.state.code
          ++ b1 outcome ++ toBytes 6 p.authorised ++ toBytes 6 p.captured ++ toBytes 6 p.refunded ++ why)
    (∀ m, s.pay.monitor = some m → exec .paymentTimeout s = .next
      (event m { (s.order m.order).pay with state := .unknown, lost := some m.cls } 6
        (b1 m.cls.code ++ [4])))
    ∧ (f.complete = true → f.mode ≠ .resync →
      (s.part ≠ .running → ∀ flips, exec (.terminalMessageComplete flips) s = .next
        ({ s with pay := { s.pay with framer := wait } } : State).settle)
      ∧ ∀ a i cls amount, s.part = .running → s.Accepts 1 →
        s.classify f.gen (payMsg true f.profile f.msg) = (s, .found a i cls amount) →
        let ends := fun (t : State) (o : Option OrderNo) =>
          exec (.terminalMessageComplete []) s = .next ({ t with
            pay := { t.pay with framer := wait },
            link := { t.link with
              upQueue := if a = .drop then s.link.upQueue else s.link.upQueue ++ [up o] } } :
            State).settle
        (outcomeOf cls = none → ends s none)
        ∧ (∀ k, outcomeOf cls = some k → s.pay.monitor = none → ends (s.updBank .payment (fun b =>
            b.capture { unit := .paymentLine, op := .receive, cause := .lateOutcome } none none)) none)
        ∧ ∀ k m, outcomeOf cls = some k → s.pay.monitor = some m →
          let p := (s.order m.order).pay
          let req := m.amount.getD 0
          let becomes := fun p' : PayRec => ends (event m p' k.code []) (some m.order)
          let unknown := fun c : Nat => ends
            (event m { p with state := .unknown, lost := some m.cls } k.code (b1 m.cls.code ++ b1 c))
            (some m.order)
          let before : PayState := match m.cls with
            | .authorise => m.prior.getD .none_
            | .capture | .void_ => .authorised
            | .refund => .captured
          (k = .approved → m.cls = .authorise →
            (amount = .absent → becomes { p with state := .authorised, authorised := req })
            ∧ (∀ v, amount = .value v → v ≤ req →
              becomes { p with state := .authorised, authorised := v })
            ∧ (∀ v, amount = .value v → req < v → unknown 1)
            ∧ (amount = .unreadable → unknown 3))
          ∧ (k = .declined → m.cls = .authorise ∨ m.cls = .capture →
            (amount ≠ .unreadable → becomes { p with
              state := if m.cls = .authorise then .declined else .authorised })
            ∧ (amount = .unreadable → unknown 3))
          ∧ (k = .captured → m.cls = .capture →
            (amount = .absent ∨ (∃ v, amount = .value v ∧ m.amount = some v) →
              becomes { p with state := .captured, captured := req })
            ∧ (∀ v, amount = .value v → m.amount ≠ some v → unknown 2)
            ∧ (amount = .unreadable → unknown 3))
          ∧ (k = .voided → m.cls = .void_ →
            (amount ≠ .unreadable → becomes { p with state := .voided, authorised := 0 })
            ∧ (amount = .unreadable → unknown 3))
          ∧ (k = .refunded → m.cls = .refund →
            (amount = .absent ∨ (∃ v, amount = .value v ∧ m.amount = some v) →
              becomes { p with state := .captured, refunded := p.refunded + req })
            ∧ (∀ v, amount = .value v → m.amount ≠ some v → unknown 2)
            ∧ (amount = .unreadable → unknown 3))
          ∧ (k = .terminalError →
            (amount ≠ .unreadable → becomes { p with state := before })
            ∧ (amount = .unreadable → unknown 3))
          ∧ (k = .approved ∧ m.cls ≠ .authorise ∨ k = .declined ∧ (m.cls = .void_ ∨ m.cls = .refund)
              ∨ k = .captured ∧ m.cls ≠ .capture ∨ k = .voided ∧ m.cls ≠ .void_
              ∨ k = .refunded ∧ m.cls ≠ .refund → unknown 0))
end

