-- ==== Sys2Proof/Laws/Dram.lean ====
section
/-! SUPPORT. What reading, writing and erasing the DRAM do, and that they keep its canonical form. -/

namespace Sys2Proof.Machine

/-! ## The canonical form -/

theorem reset_dram_wf : Memory.wf State.reset.smc.dram := by decide

theorem cellsFrom_bounds (bs : Bytes) (a : Nat) (e : Host.Cell) (h : e ∈ cellsFrom a bs) :
    a ≤ e.1 ∧ e.1 < a + bs.length ∧ e.2 ≠ unlistedByte := by
  induction bs generalizing a with
  | nil => cases h
  | cons b bs ih =>
    by_cases hb : b = unlistedByte
    · simp only [cellsFrom, hb, if_true] at h
      have := ih (a + 1) h
      exact ⟨by omega, by simp only [List.length_cons]; omega, this.2.2⟩
    · simp only [cellsFrom, hb, if_false, List.mem_cons] at h
      rcases h with rfl | h
      · simp [hb]
      · have := ih (a + 1) h
        exact ⟨by omega, by simp only [List.length_cons]; omega, this.2.2⟩

theorem cellsFrom_rising (bs : Bytes) (a : Nat) :
    (cellsFrom a bs).Pairwise (fun x y => x.1 < y.1) := by
  induction bs generalizing a with
  | nil => simp [cellsFrom]
  | cons b bs ih =>
    by_cases hb : b = unlistedByte
    · simpa only [cellsFrom, hb, if_true] using ih (a + 1)
    · simp only [cellsFrom, hb, if_false]
      exact List.pairwise_cons.2 ⟨fun e he => (cellsFrom_bounds bs (a + 1) e he).1, ih (a + 1)⟩

theorem Memory.wf_write {m : Memory} (h : Memory.wf m) (a : Nat) (bs : Bytes) :
    Memory.wf (m.write a bs) := by
  refine ⟨?_, ?_⟩
  · refine List.pairwise_append.2 ⟨List.pairwise_append.2 ⟨h.1.filter _, cellsFrom_rising bs a, ?_⟩,
      h.1.filter _, ?_⟩
    · intro x hx y hy
      have h1 : x.1 < a := by simpa using (List.mem_filter.1 hx).2
      exact Nat.lt_of_lt_of_le h1 (cellsFrom_bounds bs a y hy).1
    · intro x hx y hy
      have h2 : a + bs.length ≤ y.1 := by simpa using (List.mem_filter.1 hy).2
      rcases List.mem_append.1 hx with hx | hx
      · have h1 : x.1 < a := by simpa using (List.mem_filter.1 hx).2
        omega
      · exact Nat.lt_of_lt_of_le (cellsFrom_bounds bs a x hx).2.1 h2
  · intro e he
    rcases List.mem_append.1 he with he | he
    · rcases List.mem_append.1 he with he | he
      · exact h.2 e (List.mem_filter.1 he).1
      · exact (cellsFrom_bounds bs a e he).2.2
    · exact h.2 e (List.mem_filter.1 he).1

theorem Memory.wf_erase {m : Memory} (h : Memory.wf m) (a len : Nat) : Memory.wf (m.erase a len) :=
  ⟨h.1.filter _, fun e he => h.2 e (List.mem_filter.1 he).1⟩

theorem wf_writeParts (ps : List PagePart) : ∀ {m : Memory}, Memory.wf m → ∀ bs,
    Memory.wf (writeParts m ps bs) := by
  induction ps with
  | nil => intro m h bs; exact h
  | cons p ps ih => intro m h bs; exact ih (Memory.wf_write h _ _) _

/-! ## What is read -/

theorem find_cellsFrom (bs : Bytes) (a x : Nat) :
    ((cellsFrom a bs).find? (fun e => e.1 == x)).elim unlistedByte (fun e => e.2)
      = if a ≤ x then bs.getD (x - a) unlistedByte else unlistedByte := by
  induction bs generalizing a with
  | nil => simp [cellsFrom]
  | cons b bs ih =>
    have hx : ∀ y, a ≤ x → x ≠ a → (b :: bs).getD (x - a) y = bs.getD (x - (a + 1)) y := by
      intro y h1 h2
      obtain ⟨k, hk⟩ : ∃ k, x - a = k + 1 := ⟨x - a - 1, by omega⟩
      rw [hk, show x - (a + 1) = k by omega]; rfl
    by_cases hb : b = unlistedByte
    · simp only [cellsFrom, hb, if_true, ih (a + 1)]
      by_cases h : x = a
      · subst h; rw [if_neg (by omega), if_pos (Nat.le_refl x)]; simp
      · by_cases h1 : a ≤ x
        · rw [if_pos h1, if_pos (by omega)]; rw [hb] at hx; exact (hx _ h1 h).symm
        · rw [if_neg h1, if_neg (by omega)]
    · simp only [cellsFrom, hb, if_false, List.find?_cons]
      by_cases h : x = a
      · subst h; simp
      · rw [show (a == x) = false by simp; omega]
        simp only [ih (a + 1)]
        by_cases h1 : a ≤ x
        · rw [if_pos h1, if_pos (by omega)]; exact (hx _ h1 h).symm
        · rw [if_neg h1, if_neg (by omega)]

theorem Memory.read_eq (m : Memory) (x : Nat) :
    m.read x = (m.find? (fun e => e.1 == x)).elim unlistedByte (fun e => e.2) := by
  unfold Memory.read
  cases m.find? (fun e => e.1 == x) <;> rfl

/-- Filtering by address leaves what is read at the addresses that stay. -/
theorem find_filter (m : Memory) (p : Nat → Bool) (x : Nat) :
    (m.filter (fun e => p e.1)).find? (fun e => e.1 == x)
      = if p x then m.find? (fun e => e.1 == x) else none := by
  induction m with
  | nil => simp
  | cons e m ih =>
    by_cases he : p e.1
    · simp only [List.filter_cons, he, if_true, List.find?_cons]
      by_cases h : e.1 = x
      · subst h; simp [he]
      · simp only [show (e.1 == x) = false by simpa using h, ih]
    · simp only [List.filter_cons, he, Bool.false_eq_true, if_false, List.find?_cons, ih]
      by_cases h : e.1 = x
      · subst h; simp [he]
      · simp only [show (e.1 == x) = false by simpa using h]

/-- A byte after a write: the written one inside the range, the old one outside. -/
theorem Memory.read_write (m : Memory) (a : Nat) (bs : Bytes) (x : Nat) :
    (m.write a bs).read x
      = if a ≤ x ∧ x < a + bs.length then bs.getD (x - a) unlistedByte else m.read x := by
  have h1 := find_filter m (fun n => decide (n < a)) x
  have h2 := find_filter m (fun n => decide (a + bs.length ≤ n)) x
  have h3 := find_cellsFrom bs a x
  have h4 : x < a ∨ a + bs.length ≤ x → (cellsFrom a bs).find? (fun e => e.1 == x) = none := by
    intro h
    rw [List.find?_eq_none]
    intro e he
    have := cellsFrom_bounds bs a e he
    simp; omega
  simp only [Memory.write, Memory.read_eq, List.find?_append, h1, h2]
  by_cases hl : x < a
  · have : ¬ (a ≤ x ∧ x < a + bs.length) := by omega
    have hr : ¬ a + bs.length ≤ x := by omega
    simp [hl, hr, this, h4 (.inl hl)]
  · by_cases hr : a + bs.length ≤ x
    · have : ¬ (a ≤ x ∧ x < a + bs.length) := by omega
      simp [hl, hr, this, h4 (.inr hr)]
    · have : a ≤ x ∧ x < a + bs.length := by omega
      simp only [hl, hr, this, decide_false, Bool.false_eq_true, if_false, Option.or_none,
        Option.none_or, h3, if_true, and_self]

/-- A byte after an erasure: 0 inside the range, the old one outside. -/
theorem Memory.read_erase (m : Memory) (a len x : Nat) :
    (m.erase a len).read x = if a ≤ x ∧ x < a + len then unlistedByte else m.read x := by
  have h := find_filter m (fun n => decide (n < a) || decide (a + len ≤ n)) x
  simp only [Memory.erase, Memory.read_eq]
  rw [h]
  by_cases hx : a ≤ x ∧ x < a + len
  · have : ¬ x < a ∧ ¬ a + len ≤ x := by omega
    simp [hx, this.1, this.2]
  · have : x < a ∨ a + len ≤ x := by omega
    simp only [if_neg hx]
    rcases this with h1 | h1 <;> simp [h1]

theorem Memory.length_readRange (m : Memory) (a len : Nat) : (m.readRange a len).length = len := by
  simp [Memory.readRange]

theorem Memory.getElem_readRange (m : Memory) (a len i : Nat) (h : i < len) :
    (m.readRange a len)[i]? = some (m.read (a + i)) := by
  simp [Memory.readRange, h]

end Sys2Proof.Machine
end

