-- ==== Sys2Proof/Laws/State.lean ====
section
/-! SUPPORT. What each update of State leaves and sets, one lemma for each field and update. -/

namespace Sys2Proof.Machine

variable (s : State)

/-! ## updOrder -/

@[simp] theorem State.updOrder_pending (n : OrderNo) (f : Order → Order) : (s.updOrder n f).pending = s.pending := rfl
@[simp] theorem State.updOrder_now (n : OrderNo) (f : Order → Order) : (s.updOrder n f).now = s.now := rfl
@[simp] theorem State.updOrder_free (n : OrderNo) (f : Order → Order) : (s.updOrder n f).free = s.free := rfl
@[simp] theorem State.updOrder_resetLow (n : OrderNo) (f : Order → Order) : (s.updOrder n f).resetLow = s.resetLow := rfl
@[simp] theorem State.updOrder_part (n : OrderNo) (f : Order → Order) : (s.updOrder n f).part = s.part := rfl
@[simp] theorem State.updOrder_fip (n : OrderNo) (f : Order → Order) : (s.updOrder n f).fip = s.fip := rfl
@[simp] theorem State.updOrder_link (n : OrderNo) (f : Order → Order) : (s.updOrder n f).link = s.link := rfl
@[simp] theorem State.updOrder_lastServed (n : OrderNo) (f : Order → Order) : (s.updOrder n f).lastServed = s.lastServed := rfl
@[simp] theorem State.updOrder_smc (n : OrderNo) (f : Order → Order) : (s.updOrder n f).smc = s.smc := rfl
@[simp] theorem State.updOrder_rules (n : OrderNo) (f : Order → Order) : (s.updOrder n f).rules = s.rules := rfl
@[simp] theorem State.updOrder_slots (n : OrderNo) (f : Order → Order) : (s.updOrder n f).slots = s.slots := rfl
@[simp] theorem State.updOrder_ctxs (n : OrderNo) (f : Order → Order) : (s.updOrder n f).ctxs = s.ctxs := rfl
@[simp] theorem State.updOrder_bus (n : OrderNo) (f : Order → Order) : (s.updOrder n f).bus = s.bus := rfl
@[simp] theorem State.updOrder_engines (n : OrderNo) (f : Order → Order) : (s.updOrder n f).engines = s.engines := rfl
@[simp] theorem State.updOrder_pay (n : OrderNo) (f : Order → Order) : (s.updOrder n f).pay = s.pay := rfl
@[simp] theorem State.updOrder_banks (n : OrderNo) (f : Order → Order) : (s.updOrder n f).banks = s.banks := rfl
@[simp] theorem State.updOrder_slot (n : OrderNo) (f : Order → Order) (x : Slot) : (s.updOrder n f).slot x = s.slot x := rfl
@[simp] theorem State.updOrder_ctx (n : OrderNo) (f : Order → Order) (x : Slot) : (s.updOrder n f).ctx x = s.ctx x := rfl
@[simp] theorem State.updOrder_eng (n : OrderNo) (f : Order → Order) (e : EngineNo) : (s.updOrder n f).eng e = s.eng e := rfl
@[simp] theorem State.updOrder_bank (n : OrderNo) (f : Order → Order) (b : BankName) : (s.updOrder n f).bank b = s.bank b := rfl

/-! ## updSlot -/

@[simp] theorem State.updSlot_pending (x : Slot) (f : SlotRec → SlotRec) : (s.updSlot x f).pending = s.pending := rfl
@[simp] theorem State.updSlot_now (x : Slot) (f : SlotRec → SlotRec) : (s.updSlot x f).now = s.now := rfl
@[simp] theorem State.updSlot_free (x : Slot) (f : SlotRec → SlotRec) : (s.updSlot x f).free = s.free := rfl
@[simp] theorem State.updSlot_resetLow (x : Slot) (f : SlotRec → SlotRec) : (s.updSlot x f).resetLow = s.resetLow := rfl
@[simp] theorem State.updSlot_part (x : Slot) (f : SlotRec → SlotRec) : (s.updSlot x f).part = s.part := rfl
@[simp] theorem State.updSlot_fip (x : Slot) (f : SlotRec → SlotRec) : (s.updSlot x f).fip = s.fip := rfl
@[simp] theorem State.updSlot_link (x : Slot) (f : SlotRec → SlotRec) : (s.updSlot x f).link = s.link := rfl
@[simp] theorem State.updSlot_orders (x : Slot) (f : SlotRec → SlotRec) : (s.updSlot x f).orders = s.orders := rfl
@[simp] theorem State.updSlot_lastServed (x : Slot) (f : SlotRec → SlotRec) : (s.updSlot x f).lastServed = s.lastServed := rfl
@[simp] theorem State.updSlot_smc (x : Slot) (f : SlotRec → SlotRec) : (s.updSlot x f).smc = s.smc := rfl
@[simp] theorem State.updSlot_rules (x : Slot) (f : SlotRec → SlotRec) : (s.updSlot x f).rules = s.rules := rfl
@[simp] theorem State.updSlot_ctxs (x : Slot) (f : SlotRec → SlotRec) : (s.updSlot x f).ctxs = s.ctxs := rfl
@[simp] theorem State.updSlot_bus (x : Slot) (f : SlotRec → SlotRec) : (s.updSlot x f).bus = s.bus := rfl
@[simp] theorem State.updSlot_engines (x : Slot) (f : SlotRec → SlotRec) : (s.updSlot x f).engines = s.engines := rfl
@[simp] theorem State.updSlot_pay (x : Slot) (f : SlotRec → SlotRec) : (s.updSlot x f).pay = s.pay := rfl
@[simp] theorem State.updSlot_banks (x : Slot) (f : SlotRec → SlotRec) : (s.updSlot x f).banks = s.banks := rfl
@[simp] theorem State.updSlot_order (x : Slot) (f : SlotRec → SlotRec) (n : OrderNo) : (s.updSlot x f).order n = s.order n := rfl
@[simp] theorem State.updSlot_ctx (x : Slot) (f : SlotRec → SlotRec) (x' : Slot) : (s.updSlot x f).ctx x' = s.ctx x' := rfl
@[simp] theorem State.updSlot_eng (x : Slot) (f : SlotRec → SlotRec) (e : EngineNo) : (s.updSlot x f).eng e = s.eng e := rfl
@[simp] theorem State.updSlot_bank (x : Slot) (f : SlotRec → SlotRec) (b : BankName) : (s.updSlot x f).bank b = s.bank b := rfl

/-! ## setCtx -/

@[simp] theorem State.setCtx_pending (x : Slot) (c : Option Ctx) : (s.setCtx x c).pending = s.pending := rfl
@[simp] theorem State.setCtx_now (x : Slot) (c : Option Ctx) : (s.setCtx x c).now = s.now := rfl
@[simp] theorem State.setCtx_free (x : Slot) (c : Option Ctx) : (s.setCtx x c).free = s.free := rfl
@[simp] theorem State.setCtx_resetLow (x : Slot) (c : Option Ctx) : (s.setCtx x c).resetLow = s.resetLow := rfl
@[simp] theorem State.setCtx_part (x : Slot) (c : Option Ctx) : (s.setCtx x c).part = s.part := rfl
@[simp] theorem State.setCtx_fip (x : Slot) (c : Option Ctx) : (s.setCtx x c).fip = s.fip := rfl
@[simp] theorem State.setCtx_link (x : Slot) (c : Option Ctx) : (s.setCtx x c).link = s.link := rfl
@[simp] theorem State.setCtx_orders (x : Slot) (c : Option Ctx) : (s.setCtx x c).orders = s.orders := rfl
@[simp] theorem State.setCtx_lastServed (x : Slot) (c : Option Ctx) : (s.setCtx x c).lastServed = s.lastServed := rfl
@[simp] theorem State.setCtx_smc (x : Slot) (c : Option Ctx) : (s.setCtx x c).smc = s.smc := rfl
@[simp] theorem State.setCtx_rules (x : Slot) (c : Option Ctx) : (s.setCtx x c).rules = s.rules := rfl
@[simp] theorem State.setCtx_slots (x : Slot) (c : Option Ctx) : (s.setCtx x c).slots = s.slots := rfl
@[simp] theorem State.setCtx_bus (x : Slot) (c : Option Ctx) : (s.setCtx x c).bus = s.bus := rfl
@[simp] theorem State.setCtx_engines (x : Slot) (c : Option Ctx) : (s.setCtx x c).engines = s.engines := rfl
@[simp] theorem State.setCtx_pay (x : Slot) (c : Option Ctx) : (s.setCtx x c).pay = s.pay := rfl
@[simp] theorem State.setCtx_banks (x : Slot) (c : Option Ctx) : (s.setCtx x c).banks = s.banks := rfl
@[simp] theorem State.setCtx_order (x : Slot) (c : Option Ctx) (n : OrderNo) : (s.setCtx x c).order n = s.order n := rfl
@[simp] theorem State.setCtx_slot (x : Slot) (c : Option Ctx) (x' : Slot) : (s.setCtx x c).slot x' = s.slot x' := rfl
@[simp] theorem State.setCtx_eng (x : Slot) (c : Option Ctx) (e : EngineNo) : (s.setCtx x c).eng e = s.eng e := rfl
@[simp] theorem State.setCtx_bank (x : Slot) (c : Option Ctx) (b : BankName) : (s.setCtx x c).bank b = s.bank b := rfl

/-! ## updEng -/

@[simp] theorem State.updEng_pending (e : EngineNo) (f : Engine → Engine) : (s.updEng e f).pending = s.pending := rfl
@[simp] theorem State.updEng_now (e : EngineNo) (f : Engine → Engine) : (s.updEng e f).now = s.now := rfl
@[simp] theorem State.updEng_free (e : EngineNo) (f : Engine → Engine) : (s.updEng e f).free = s.free := rfl
@[simp] theorem State.updEng_resetLow (e : EngineNo) (f : Engine → Engine) : (s.updEng e f).resetLow = s.resetLow := rfl
@[simp] theorem State.updEng_part (e : EngineNo) (f : Engine → Engine) : (s.updEng e f).part = s.part := rfl
@[simp] theorem State.updEng_fip (e : EngineNo) (f : Engine → Engine) : (s.updEng e f).fip = s.fip := rfl
@[simp] theorem State.updEng_link (e : EngineNo) (f : Engine → Engine) : (s.updEng e f).link = s.link := rfl
@[simp] theorem State.updEng_orders (e : EngineNo) (f : Engine → Engine) : (s.updEng e f).orders = s.orders := rfl
@[simp] theorem State.updEng_lastServed (e : EngineNo) (f : Engine → Engine) : (s.updEng e f).lastServed = s.lastServed := rfl
@[simp] theorem State.updEng_smc (e : EngineNo) (f : Engine → Engine) : (s.updEng e f).smc = s.smc := rfl
@[simp] theorem State.updEng_rules (e : EngineNo) (f : Engine → Engine) : (s.updEng e f).rules = s.rules := rfl
@[simp] theorem State.updEng_slots (e : EngineNo) (f : Engine → Engine) : (s.updEng e f).slots = s.slots := rfl
@[simp] theorem State.updEng_ctxs (e : EngineNo) (f : Engine → Engine) : (s.updEng e f).ctxs = s.ctxs := rfl
@[simp] theorem State.updEng_bus (e : EngineNo) (f : Engine → Engine) : (s.updEng e f).bus = s.bus := rfl
@[simp] theorem State.updEng_pay (e : EngineNo) (f : Engine → Engine) : (s.updEng e f).pay = s.pay := rfl
@[simp] theorem State.updEng_banks (e : EngineNo) (f : Engine → Engine) : (s.updEng e f).banks = s.banks := rfl
@[simp] theorem State.updEng_order (e : EngineNo) (f : Engine → Engine) (n : OrderNo) : (s.updEng e f).order n = s.order n := rfl
@[simp] theorem State.updEng_slot (e : EngineNo) (f : Engine → Engine) (x : Slot) : (s.updEng e f).slot x = s.slot x := rfl
@[simp] theorem State.updEng_ctx (e : EngineNo) (f : Engine → Engine) (x : Slot) : (s.updEng e f).ctx x = s.ctx x := rfl
@[simp] theorem State.updEng_bank (e : EngineNo) (f : Engine → Engine) (b : BankName) : (s.updEng e f).bank b = s.bank b := rfl

/-! ## updBank -/

@[simp] theorem State.updBank_pending (b : BankName) (f : Bank → Bank) : (s.updBank b f).pending = s.pending := rfl
@[simp] theorem State.updBank_now (b : BankName) (f : Bank → Bank) : (s.updBank b f).now = s.now := rfl
@[simp] theorem State.updBank_free (b : BankName) (f : Bank → Bank) : (s.updBank b f).free = s.free := rfl
@[simp] theorem State.updBank_resetLow (b : BankName) (f : Bank → Bank) : (s.updBank b f).resetLow = s.resetLow := rfl
@[simp] theorem State.updBank_part (b : BankName) (f : Bank → Bank) : (s.updBank b f).part = s.part := rfl
@[simp] theorem State.updBank_fip (b : BankName) (f : Bank → Bank) : (s.updBank b f).fip = s.fip := rfl
@[simp] theorem State.updBank_link (b : BankName) (f : Bank → Bank) : (s.updBank b f).link = s.link := rfl
@[simp] theorem State.updBank_orders (b : BankName) (f : Bank → Bank) : (s.updBank b f).orders = s.orders := rfl
@[simp] theorem State.updBank_lastServed (b : BankName) (f : Bank → Bank) : (s.updBank b f).lastServed = s.lastServed := rfl
@[simp] theorem State.updBank_smc (b : BankName) (f : Bank → Bank) : (s.updBank b f).smc = s.smc := rfl
@[simp] theorem State.updBank_rules (b : BankName) (f : Bank → Bank) : (s.updBank b f).rules = s.rules := rfl
@[simp] theorem State.updBank_slots (b : BankName) (f : Bank → Bank) : (s.updBank b f).slots = s.slots := rfl
@[simp] theorem State.updBank_ctxs (b : BankName) (f : Bank → Bank) : (s.updBank b f).ctxs = s.ctxs := rfl
@[simp] theorem State.updBank_bus (b : BankName) (f : Bank → Bank) : (s.updBank b f).bus = s.bus := rfl
@[simp] theorem State.updBank_engines (b : BankName) (f : Bank → Bank) : (s.updBank b f).engines = s.engines := rfl
@[simp] theorem State.updBank_pay (b : BankName) (f : Bank → Bank) : (s.updBank b f).pay = s.pay := rfl
@[simp] theorem State.updBank_order (b : BankName) (f : Bank → Bank) (n : OrderNo) : (s.updBank b f).order n = s.order n := rfl
@[simp] theorem State.updBank_slot (b : BankName) (f : Bank → Bank) (x : Slot) : (s.updBank b f).slot x = s.slot x := rfl
@[simp] theorem State.updBank_ctx (b : BankName) (f : Bank → Bank) (x : Slot) : (s.updBank b f).ctx x = s.ctx x := rfl
@[simp] theorem State.updBank_eng (b : BankName) (f : Bank → Bank) (e : EngineNo) : (s.updBank b f).eng e = s.eng e := rfl

/-! ## setGrant -/

@[simp] theorem State.setGrant_pending (g : Option Grant) : (s.setGrant g).pending = s.pending := rfl
@[simp] theorem State.setGrant_now (g : Option Grant) : (s.setGrant g).now = s.now := rfl
@[simp] theorem State.setGrant_free (g : Option Grant) : (s.setGrant g).free = s.free := rfl
@[simp] theorem State.setGrant_resetLow (g : Option Grant) : (s.setGrant g).resetLow = s.resetLow := rfl
@[simp] theorem State.setGrant_part (g : Option Grant) : (s.setGrant g).part = s.part := rfl
@[simp] theorem State.setGrant_fip (g : Option Grant) : (s.setGrant g).fip = s.fip := rfl
@[simp] theorem State.setGrant_link (g : Option Grant) : (s.setGrant g).link = s.link := rfl
@[simp] theorem State.setGrant_orders (g : Option Grant) : (s.setGrant g).orders = s.orders := rfl
@[simp] theorem State.setGrant_lastServed (g : Option Grant) : (s.setGrant g).lastServed = s.lastServed := rfl
@[simp] theorem State.setGrant_smc (g : Option Grant) : (s.setGrant g).smc = s.smc := rfl
@[simp] theorem State.setGrant_rules (g : Option Grant) : (s.setGrant g).rules = s.rules := rfl
@[simp] theorem State.setGrant_slots (g : Option Grant) : (s.setGrant g).slots = s.slots := rfl
@[simp] theorem State.setGrant_ctxs (g : Option Grant) : (s.setGrant g).ctxs = s.ctxs := rfl
@[simp] theorem State.setGrant_engines (g : Option Grant) : (s.setGrant g).engines = s.engines := rfl
@[simp] theorem State.setGrant_pay (g : Option Grant) : (s.setGrant g).pay = s.pay := rfl
@[simp] theorem State.setGrant_banks (g : Option Grant) : (s.setGrant g).banks = s.banks := rfl
@[simp] theorem State.setGrant_order (g : Option Grant) (n : OrderNo) : (s.setGrant g).order n = s.order n := rfl
@[simp] theorem State.setGrant_slot (g : Option Grant) (x : Slot) : (s.setGrant g).slot x = s.slot x := rfl
@[simp] theorem State.setGrant_ctx (g : Option Grant) (x : Slot) : (s.setGrant g).ctx x = s.ctx x := rfl
@[simp] theorem State.setGrant_eng (g : Option Grant) (e : EngineNo) : (s.setGrant g).eng e = s.eng e := rfl
@[simp] theorem State.setGrant_bank (g : Option Grant) (b : BankName) : (s.setGrant g).bank b = s.bank b := rfl

/-! ## Reading back an indexed record -/

theorem vec_get_set_self {α : Type} {n : Nat} (v : Vector α n) (i : Fin n) (a : α) :
    (v.set i.val a).get i = a := Vector.getElem_set_self i.isLt

theorem vec_get_set_ne {α : Type} {n : Nat} (v : Vector α n) (i j : Fin n) (a : α) (h : j ≠ i) :
    (v.set i.val a).get j = v.get j := by
  exact Vector.getElem_set_ne i.isLt j.isLt (fun e => h (Fin.ext e.symm))

theorem vec_set_get {α : Type} {n : Nat} (v : Vector α n) (i : Fin n) : v.set i.val (v.get i) = v :=
  Vector.set_getElem_self i.isLt

theorem slotNo_injective {x y : Slot} (h : slotNo x = slotNo y) : x = y := by
  cases x <;> cases y <;> first | rfl | exact absurd h (by decide)

theorem engineIdx_injective {x y : EngineNo} (h : engineIdx x = engineIdx y) : x = y := by
  cases x <;> cases y <;> first | rfl | exact absurd h (by decide)

theorem bankNo_injective {x y : BankName} (h : bankNo x = bankNo y) : x = y := by
  cases x <;> cases y <;> first | rfl | exact absurd h (by decide)

@[simp] theorem State.order_updOrder_self (n : OrderNo) (f : Order → Order) :
    (s.updOrder n f).order n = rearm (s.order n) (f (s.order n)) := vec_get_set_self _ _ _

theorem State.order_updOrder_ne {n m : OrderNo} (f : Order → Order) (h : m ≠ n) :
    (s.updOrder n f).order m = s.order m := vec_get_set_ne _ _ _ _ h

@[simp] theorem State.slot_updSlot_self (x : Slot) (f : SlotRec → SlotRec) :
    (s.updSlot x f).slot x = f (s.slot x) := vec_get_set_self _ _ _

theorem State.slot_updSlot_ne {x y : Slot} (f : SlotRec → SlotRec) (h : y ≠ x) :
    (s.updSlot x f).slot y = s.slot y :=
  vec_get_set_ne _ _ _ _ (fun e => h (slotNo_injective e))

@[simp] theorem State.ctx_setCtx_self (x : Slot) (c : Option Ctx) : (s.setCtx x c).ctx x = c :=
  vec_get_set_self _ _ _

theorem State.ctx_setCtx_ne {x y : Slot} (c : Option Ctx) (h : y ≠ x) :
    (s.setCtx x c).ctx y = s.ctx y := vec_get_set_ne _ _ _ _ (fun e => h (slotNo_injective e))

@[simp] theorem State.eng_updEng_self (e : EngineNo) (f : Engine → Engine) :
    (s.updEng e f).eng e = f (s.eng e) := vec_get_set_self _ _ _

theorem State.eng_updEng_ne {e d : EngineNo} (f : Engine → Engine) (h : d ≠ e) :
    (s.updEng e f).eng d = s.eng d := vec_get_set_ne _ _ _ _ (fun k => h (engineIdx_injective k))

@[simp] theorem State.bank_updBank_self (b : BankName) (f : Bank → Bank) :
    (s.updBank b f).bank b = f (s.bank b) := vec_get_set_self _ _ _

theorem State.bank_updBank_ne {b c : BankName} (f : Bank → Bank) (h : c ≠ b) :
    (s.updBank b f).bank c = s.bank c := vec_get_set_ne _ _ _ _ (fun k => h (bankNo_injective k))

@[simp] theorem State.grant_setGrant (g : Option Grant) : (s.setGrant g).bus.grant = g := rfl

@[simp] theorem State.lastGranted_setGrant (g : Option Grant) :
    (s.setGrant g).bus.lastGranted = s.bus.lastGranted := rfl

/-! ## Two updates of one record -/

theorem vec_set_set {α : Type} {n : Nat} (v : Vector α n) (i : Fin n) (a b : α) :
    (v.set i.val a).set i.val b = v.set i.val b := by
  ext j hj
  by_cases h : i.val = j <;> simp [h]

theorem State.updSlot_updSlot (x : Slot) (f g : SlotRec → SlotRec) :
    (s.updSlot x f).updSlot x g = s.updSlot x (fun r => g (f r)) := by
  simp [State.updSlot, State.slot, vec_get_set_self]

theorem State.updEng_updEng (e : EngineNo) (f g : Engine → Engine) :
    (s.updEng e f).updEng e g = s.updEng e (fun r => g (f r)) := by
  simp [State.updEng, State.eng, vec_get_set_self]

theorem State.setCtx_setCtx (x : Slot) (c d : Option Ctx) :
    (s.setCtx x c).setCtx x d = s.setCtx x d := by
  simp [State.setCtx]

theorem State.setGrant_setGrant (g h : Option Grant) : (s.setGrant g).setGrant h = s.setGrant h := rfl

/-! ## The short-notice flag -/

/-- A change that keeps the candidate and the authorised amount does not arm the flag (R119). -/
theorem rearm_keeps {old new : Order} (hc : old.candidate = new.candidate)
    (ha : old.pay.authorised = new.pay.authorised) : rearm old new = new := by
  simp [rearm, hc, ha]

/-- Arming touches the flag alone. -/
theorem rearm_eq (old new : Order) :
    rearm old new = { new with shortArmed := (rearm old new).shortArmed } := by
  unfold rearm
  split <;> rfl

/-! ## Names and their numbers -/

@[simp] theorem slotOf_slotNo (x : Slot) : slotOf (slotNo x).val = some x := by cases x <;> rfl

@[simp] theorem engineOf_engineNum (e : EngineNo) : engineOf (engineNum e) = some e := by
  cases e <;> rfl

@[simp] theorem bankOf_bankNo (b : BankName) : bankOf (bankNo b).val = some b := by cases b <;> rfl

end Sys2Proof.Machine
end

