-- ==== Sys2Proof/Laws/Ops.lean ====
section
/-! SUPPORT. What each shared operation can do: the fields of the state it may change, and what it does where that is short to say. -/

namespace Sys2Proof.Machine

variable (s : State)

/-! ## Takes -/

/-- A command acts on the frame it takes. -/
theorem State.takeAs_of_takes {s : State} {row : TakeRow} {f : DownFrame} {s1 : State}
    (h : s.Takes row f s1) (k : DownFrame → State → State) : s.takeAs row k = k f s1 := by
  obtain ⟨hr, rest, hn, rfl⟩ := h
  simp [State.takeAs, hn, hr]

/-- Without a take of its row a command does nothing. -/
theorem State.takeAs_of_none {s : State} {row : TakeRow} (h : ∀ f s1, ¬ s.Takes row f s1)
    (k : DownFrame → State → State) : s.takeAs row k = s := by
  unfold State.takeAs
  split
  · rename_i f rest hn
    split
    · rename_i hr
      exact absurd ⟨hr, rest, hn, rfl⟩ (h f (s.afterTake rest))
    · rfl
  · rfl

/-- Two takes of one state are the same take. -/
theorem State.Takes.unique {s : State} {r r' : TakeRow} {f f' : DownFrame} {s1 s1' : State}
    (h : s.Takes r f s1) (h' : s.Takes r' f' s1') : r = r' ∧ f = f' ∧ s1 = s1' := by
  obtain ⟨rfl, rest, hn, rfl⟩ := h
  obtain ⟨rfl, rest', hn', rfl⟩ := h'
  rw [hn] at hn'
  cases hn'
  exact ⟨rfl, rfl, rfl⟩

theorem State.roomToTake_iff : s.roomToTake = true ↔
    s.link.upQueue.length + s.reserved + s.link.waiting.length < 16 := decide_eq_true_iff

/-- While the link is UP a take leaves a place for every frame that waits, and one for its answer. -/
theorem State.mayTake_iff (f : DownFrame) : s.mayTake f = true ↔
    (s.link.state = .up → s.link.upQueue.length + s.reserved + s.link.waiting.length < 16)
      ∧ (f.chan = 9 → s.smc.bulk = none) := by
  by_cases h : s.link.state = .up <;> by_cases hc : f.chan = 9 <;>
    simp [State.mayTake, State.roomToTake_iff, h, hc]

theorem State.followHeld_frame : s.followHeld = { s with link := { s.link with
    rxPaused := s.followHeld.link.rxPaused, ctlOut := s.followHeld.link.ctlOut } } := by
  unfold State.followHeld; split
  · rfl
  · split <;> rfl

theorem State.afterTake_frame (rest : List DownFrame) : s.afterTake rest = { s with link := { s.link with
    downBuf := rest, rxPaused := (s.afterTake rest).link.rxPaused,
    ctlOut := (s.afterTake rest).link.ctlOut } } :=
  State.followHeld_frame ({ s with link := { s.link with downBuf := rest } } : State)

/-! ## Notices and the upstream queue -/

/-- A notice touches its queue or the lost count alone. -/
theorem State.raise_frame (k : NoticeKind) (o : Option OrderNo) (b : Bytes) :
    s.raise k o b = { s with link := { s.link with
      notices := (s.raise k o b).link.notices, lost := (s.raise k o b).link.lost } } := by
  unfold State.raise; split <;> rfl

/-- The same, with the link as a whole. -/
theorem State.raise_link (k : NoticeKind) (o : Option OrderNo) (b : Bytes) :
    s.raise k o b = { s with link := (s.raise k o b).link } := by
  unfold State.raise; split <;> rfl

theorem State.raise_room (k : NoticeKind) (o : Option OrderNo) (b : Bytes)
    (h : s.link.notices.length < 64) : s.raise k o b = { s with link := { s.link with
      notices := s.link.notices ++ [{ kind := k, order := o, fip := s.fip, body := b }] } } := by
  unfold State.raise; rw [if_pos (show _ < Config.noticeLimit from h)]

/-- The notices that were queued stay at the front. -/
theorem State.raise_prefix (k : NoticeKind) (o : Option OrderNo) (b : Bytes) :
    ∃ more, (s.raise k o b).link.notices = s.link.notices ++ more := by
  unfold State.raise; split
  · exact ⟨_, rfl⟩
  · exact ⟨[], (List.append_nil _).symm⟩

theorem State.raiseItemEvent_frame (n : OrderNo) (i : Nat) : s.raiseItemEvent n i =
    { s with link := { s.link with notices := (s.raiseItemEvent n i).link.notices,
                                   lost := (s.raiseItemEvent n i).link.lost } } := by
  unfold State.raiseItemEvent; split
  · exact State.raise_frame s _ _ _
  · rfl

theorem State.raiseItemEvent_link (n : OrderNo) (i : Nat) :
    s.raiseItemEvent n i = { s with link := (s.raiseItemEvent n i).link } := by
  unfold State.raiseItemEvent; split
  · exact State.raise_link s _ _ _
  · rfl

theorem State.raiseEngineEvent_frame (e : EngineNo) (p : Option PageEnd) : s.raiseEngineEvent e p =
    { s with link := { s.link with notices := (s.raiseEngineEvent e p).link.notices,
                                   lost := (s.raiseEngineEvent e p).link.lost } } := by
  unfold State.raiseEngineEvent; cases p <;> exact State.raise_frame s _ _ _

theorem State.place_up (f : UpFrame) (h : s.link.state = .up) : s.place f = { s with link := { s.link with
    upQueue := s.link.upQueue ++ [{ f with fip := s.fip }] } } := by
  simp [State.place, h]

theorem State.place_down (f : UpFrame) (h : s.link.state ≠ .up) : s.place f = s := by
  simp [State.place, h]

theorem State.place_frame (f : UpFrame) :
    s.place f = { s with link := { s.link with upQueue := (s.place f).link.upQueue } } := by
  unfold State.place; split <;> rfl

theorem State.offer_frame (w : Waiter) (f : UpFrame) : (s.offer w f).1 = { s with link := { s.link with
    upQueue := (s.offer w f).1.link.upQueue, waiting := (s.offer w f).1.link.waiting } } := by
  unfold State.offer; split
  · rfl
  · split
    · rw [State.place_frame]
    · rfl

theorem State.offer_up (w : Waiter) (f : UpFrame) (h : s.Accepts 1) : s.offer w f = (s.place f, true) := by
  obtain ⟨h1, h2, h3⟩ := h
  have hr : s.room = true := by
    unfold State.room; exact decide_eq_true (show _ < 16 by omega)
  simp [State.offer, h1, hr, h3]

theorem State.copyEnded_link (e : EngineNo) (r : ItemRef) (st : EngineState) (last : Option FaultCause)
    (c : CopyOutcome) : s.copyEnded e r st last c = { s with link := (s.copyEnded e r st last c).link } :=
  State.raise_link s _ _ _

theorem State.itemEnded_link (r : ItemRef) (it : Item) :
    s.itemEnded r it = { s with link := (s.itemEnded r it).link } := State.raise_link s _ _ _

/-! ## Orders -/

theorem State.cancelCheck_frame (n : OrderNo) :
    s.cancelCheck n = { s with orders := (s.cancelCheck n).orders } := by
  unfold State.cancelCheck; split <;> rfl

theorem State.release_frame (n : OrderNo) : s.release n =
    { s with orders := s.orders.set n.val .blank, link := (s.release n).link } := by
  unfold State.release
  dsimp only
  rw [State.raise_link]

/-- The retired set gains the page and keeps its pages. -/
theorem mem_retire (l : List Nat) (p q : Nat) : q ∈ retire l p ↔ q = p ∨ q ∈ l := by
  induction l with
  | nil => simp [retire]
  | cons a l ih =>
    unfold retire
    split
    · simp
    · split
      · rename_i h; subst h; simp
      · simp only [List.mem_cons, ih]; exact or_left_comm

/-- A page that is not retired yet is one more. -/
theorem retire_perm (l : List Nat) (p : Nat) (h : p ∉ l) : (retire l p).Perm (p :: l) := by
  induction l with
  | nil => simp [retire]
  | cons a l ih =>
    simp only [List.mem_cons, not_or] at h
    unfold retire
    split
    · exact List.Perm.refl _
    · rw [if_neg h.1]
      exact ((ih h.2).cons a).trans (List.Perm.swap p a l)

/-! ## Engines -/

theorem State.startTimer_frame (e : EngineNo) (k : TimerKind) :
    s.startTimer e k = { s with engines := (s.startTimer e k).engines } := rfl

theorem State.touchIdle_frame (e : EngineNo) :
    s.touchIdle e = { s with engines := (s.touchIdle e).engines } := by
  unfold State.touchIdle; split <;> rfl

theorem State.openPage_frame (e : EngineNo) (r : ItemRef) :
    s.openPage e r = { s with engines := (s.openPage e r).engines } := by
  unfold State.openPage; split <;> rfl

theorem State.orphanRead_frame (e : EngineNo) :
    s.orphanRead e = { s with engines := (s.orphanRead e).engines } := by
  unfold State.orphanRead; split <;> rfl

theorem State.tryBand_frame (e : EngineNo) : s.tryBand e = { s with engines := (s.tryBand e).engines } := by
  unfold State.tryBand; dsimp only; split <;> rfl

theorem State.wasteCopy_frame (e : EngineNo) :
    s.wasteCopy e = { s with orders := (s.wasteCopy e).orders } := by
  unfold State.wasteCopy; split <;> rfl

theorem State.abandonPage_frame (e : EngineNo) : s.abandonPage e =
    { s with orders := (s.abandonPage e).orders, engines := (s.abandonPage e).engines } := by
  have h1 := State.wasteCopy_frame s e
  have h2 := State.orphanRead_frame (s.wasteCopy e) e
  unfold State.abandonPage
  rw [h2, h1]
  rfl

theorem State.leavePrinting_frame (e : EngineNo) (st : ItemState) : s.leavePrinting e st =
    { s with orders := (s.leavePrinting e st).orders, engines := (s.leavePrinting e st).engines } := by
  unfold State.leavePrinting
  split
  · rw [State.cancelCheck_frame, State.orphanRead_frame]; rfl
  · rfl

theorem State.returnEntry_frame (e : EngineNo) (r : ItemRef) : s.returnEntry e r =
    { s with orders := (s.returnEntry e r).orders, engines := (s.returnEntry e r).engines,
             link := (s.returnEntry e r).link } := by
  unfold State.returnEntry
  rw [State.raiseItemEvent_link]
  rfl

theorem State.returnEntries_frame (e : EngineNo) (p : ItemRef → Bool) : s.returnEntries e p =
    { s with orders := (s.returnEntries e p).orders, engines := (s.returnEntries e p).engines,
             link := (s.returnEntries e p).link } := by
  have h : ∀ (l : List ItemRef) (t : State), l.foldl (fun acc r => acc.returnEntry e r) t =
      { t with orders := (l.foldl (fun acc r => acc.returnEntry e r) t).orders,
               engines := (l.foldl (fun acc r => acc.returnEntry e r) t).engines,
               link := (l.foldl (fun acc r => acc.returnEntry e r) t).link } := by
    intro l
    induction l with
    | nil => intro t; rfl
    | cons r l ih =>
      intro t
      simp only [List.foldl_cons]
      exact (ih _).trans (by rw [State.returnEntry_frame t e r])
  unfold State.returnEntries
  split
  · rfl
  · exact h _ _

/-! ## The card bus -/

theorem State.discardPrefetch_frame (x : Slot) : s.discardPrefetch x =
    { s with slots := s.slots.set (slotNo x).val { s.slot x with buf := none, prefetch := none },
             bus := (s.discardPrefetch x).bus } := by
  unfold State.discardPrefetch
  split
  · split
    · split <;> rfl
    · rfl
  · rfl

theorem State.releaseBus_frame (x : Slot) : s.releaseBus x = { s with bus := (s.releaseBus x).bus } := by
  unfold State.releaseBus; split
  · split <;> rfl
  · rfl

theorem State.enterError_frame (x : Slot) : s.enterError x =
    { s with slots := (s.enterError x).slots, bus := (s.enterError x).bus,
             link := (s.enterError x).link } := by
  unfold State.enterError
  split
  · rw [State.discardPrefetch_frame]; rfl
  · unfold State.raiseSlotEvent
    rw [State.raise_link, State.discardPrefetch_frame]; rfl

theorem State.endRequest_frame (x : Slot) (how : EndHow) : s.endRequest x how =
    { s with slots := (s.endRequest x how).slots, bus := (s.endRequest x how).bus,
             link := (s.endRequest x how).link } := by
  cases how with
  | kept => rfl
  | identified c a => rfl
  | toError => exact (State.enterError_frame (s.updSlot x _) x).trans rfl

theorem State.unbind_frame (x : Slot) : s.unbind x =
    { s with orders := (s.unbind x).orders, slots := (s.unbind x).slots, bus := (s.unbind x).bus } := by
  unfold State.unbind
  split <;> (rw [State.discardPrefetch_frame]; rfl)

theorem State.afterFeed_frame (x : Slot) :
    s.afterFeed x = { s with ctxs := (s.afterFeed x).ctxs, bus := (s.afterFeed x).bus } := by
  unfold State.afterFeed
  split
  · split
    · split <;> rfl
    · rfl
  · rfl

theorem State.usePrefetch_frame (x : Slot) (g : Grant) : s.usePrefetch x g =
    { s with ctxs := (s.usePrefetch x g).ctxs, slots := (s.usePrefetch x g).slots,
             bus := (s.usePrefetch x g).bus } := by
  unfold State.usePrefetch
  split
  · split
    · rw [State.afterFeed_frame]; rfl
    · rfl
  · rfl

theorem State.grantRequest_frame (x : Slot) : s.grantRequest x =
    { s with ctxs := (s.grantRequest x).ctxs, slots := (s.grantRequest x).slots,
             bus := (s.grantRequest x).bus } := by
  unfold State.grantRequest
  split
  · dsimp only
    split
    · rw [State.usePrefetch_frame]; rfl
    · rfl
  · rfl

theorem State.grantPrefetch_frame (x : Slot) : s.grantPrefetch x =
    { s with slots := (s.grantPrefetch x).slots, bus := (s.grantPrefetch x).bus } := by
  unfold State.grantPrefetch; split <;> rfl

theorem State.arbitrate_frame : s.arbitrate =
    { s with ctxs := s.arbitrate.ctxs, slots := s.arbitrate.slots, bus := s.arbitrate.bus } := by
  unfold State.arbitrate
  split
  · rfl
  · split
    · exact State.grantRequest_frame s _
    · split
      · rw [State.grantPrefetch_frame]
      · rfl

/-- A bus that is in use, or a part that is HALTED, grants nothing. -/
theorem State.arbitrate_idle (h : s.part = .halted ∨ s.bus.grant.isSome) : s.arbitrate = s := by
  unfold State.arbitrate; rw [if_pos (by simpa using h)]

theorem State.yieldPrefetch_frame : s.yieldPrefetch =
    { s with slots := s.yieldPrefetch.slots, bus := s.yieldPrefetch.bus } := by
  unfold State.yieldPrefetch
  split
  · split
    · split <;> rfl
    · rfl
  · rfl

theorem State.becomeWaiting_frame (x : Slot) : s.becomeWaiting x =
    { s with ctxs := (s.becomeWaiting x).ctxs, slots := (s.becomeWaiting x).slots,
             bus := (s.becomeWaiting x).bus } := by
  unfold State.becomeWaiting
  rw [State.arbitrate_frame, State.yieldPrefetch_frame]; rfl

/-! ## The commit barrier and the framer -/

theorem State.framerNext_frame : s.framerNext = { s with pay := s.framerNext.pay } := by
  unfold State.framerNext; split <;> rfl

/-- Without a barrier nothing settles. -/
theorem State.settle_none (h : s.rules.barrier = none) : s.settle = s := by simp [State.settle, h]

theorem State.discardAll_frame (l : List Slot) : l.foldl State.discardPrefetch s =
    { s with slots := (l.foldl State.discardPrefetch s).slots,
             bus := (l.foldl State.discardPrefetch s).bus } := by
  induction l generalizing s with
  | nil => rfl
  | cons x l ih =>
    simp only [List.foldl_cons]
    exact (ih _).trans (by rw [State.discardPrefetch_frame])

theorem State.completeBarrier_frame (b : Barrier) : s.completeBarrier b =
    { s with rules := (s.completeBarrier b).rules, slots := (s.completeBarrier b).slots,
             bus := (s.completeBarrier b).bus, link := (s.completeBarrier b).link } := by
  unfold State.completeBarrier
  dsimp only
  rw [State.offer_frame, State.discardAll_frame]

theorem State.settle_frame : s.settle =
    { s with rules := s.settle.rules, slots := s.settle.slots, bus := s.settle.bus,
             link := s.settle.link, pay := s.settle.pay } := by
  unfold State.settle
  split
  · rfl
  · dsimp only
    split
    · rw [State.completeBarrier_frame]; split <;> rfl
    · split <;> rfl

/-! ## Errors -/

/-- A corrected error is captured and does nothing more. -/
theorem State.report_corrected (c : ErrCode) (o : Option OrderNo) (a : Option ErrAddr)
    (h : c.cause.uncorrected = false) :
    s.report c o a = s.updBank c.cause.bank (fun b => b.capture c o a) := by
  simp [State.report, h]

/-- A disabled error is captured and does nothing more. -/
theorem State.report_disabled (c : ErrCode) (o : Option OrderNo) (a : Option ErrAddr)
    (h : (s.bank c.cause.bank).mask.getLsbD c.cause.idx = false) :
    s.report c o a = s.updBank c.cause.bank (fun b => b.capture c o a) := by
  simp [State.report, enabledIn, h]

/-- An error that no match meets leaves the state: the classification of a list that is sound. -/
theorem State.classify_valid (gen : Nat) (m : Msg) (hv : s.genValid gen = true)
    (hg : ∀ i, scanRules m 0 (s.imageOf gen).rules ≠ .badParity i) :
    s.classify gen m = (s, verdictOf m (scanRules m 0 (s.imageOf gen).rules)) := by
  unfold State.classify
  rw [if_pos hv]
  dsimp only
  split
  · rename_i i h; exact absurd h (hg i)
  · rfl
  · rfl

theorem State.classify_invalid (gen : Nat) (m : Msg) (hv : s.genValid gen = false) :
    s.classify gen m = (s, .invalid) := by
  simp [State.classify, hv]

/-- Without flips the images stay. -/
theorem State.flipBits_nil : s.flipBits [] = s := rfl

/-! ## Waiting frames and the entry to HALTED -/

theorem State.insertCard_frame (x : Slot) (locked : Bool) : s.insertCard x locked =
    { s with slots := (s.insertCard x locked).slots, link := (s.insertCard x locked).link } := by
  unfold State.insertCard State.raiseSlotEvent
  rw [State.raise_link]
  rfl

/-- An insertion sets the slot's base state and lock level, and its notice carries them. -/
theorem State.insertCard_eq (x : Slot) (locked : Bool) : s.insertCard x locked =
    ({ s with slots := s.slots.set (slotNo x).val { s.slot x with
        base := some .present, lock := some locked, debounce := .idle } } : State).raise .slotEvent
      (s.slot x).bound
      (b1 (slotNo x).val ++ [1] ++ [orderByte (s.slot x).bound] ++ flagByte locked) := by
  cases locked <;> rfl

/-- A waiting insertion is taken where the slot is EMPTY, its input shows a card and its port is free. -/
theorem State.takeInsertion_taken (x : Slot) (hb : (s.slot x).base = none) (hp : (s.slot x).pin = true)
    (hd : (s.slot x).debounce = .ended) (hf : s.portBusy (.slotPort x) = false) : s.takeInsertion x =
      ({ s with free := s.free + 1 } : State).insertCard x (Config.lockLevel s.free) := by
  simp [State.takeInsertion, hb, hp, hd, hf]

/-- A port that is still busy, a debounce that has not ended: no insertion is taken. -/
theorem State.takeInsertion_none (x : Slot)
    (h : (s.slot x).debounce ≠ .ended ∨ s.portBusy (.slotPort x) = true) : s.takeInsertion x = s := by
  unfold State.takeInsertion
  rw [if_neg]
  rintro ⟨-, -, hd, hf⟩
  rcases h with h | h
  · exact h hd
  · simp [h] at hf

theorem State.takeInsertion_frame (x : Slot) : s.takeInsertion x =
    { s with free := (s.takeInsertion x).free, slots := (s.takeInsertion x).slots,
             link := (s.takeInsertion x).link } := by
  unfold State.takeInsertion
  split
  · rw [State.insertCard_frame]
  · rfl

theorem State.beginPrefetch_frame (x : Slot) (next : Nat) :
    s.beginPrefetch x next = { s with slots := (s.beginPrefetch x next).slots } := by
  unfold State.beginPrefetch
  split
  · dsimp only; split <;> rfl
  · rfl

theorem State.endStaged_frame (x : Slot) : s.endStaged x =
    { s with free := (s.endStaged x).free, ctxs := (s.endStaged x).ctxs, slots := (s.endStaged x).slots,
             bus := (s.endStaged x).bus, link := (s.endStaged x).link, rules := (s.endStaged x).rules,
             pay := (s.endStaged x).pay } := by
  unfold State.endStaged
  split
  · dsimp only
    rw [State.takeInsertion_frame]
    split
    · rw [State.beginPrefetch_frame, State.settle_frame]
      split
      · rw [State.endRequest_frame]; rfl
      · rfl
    · rw [State.settle_frame]
      split
      · rw [State.endRequest_frame]; rfl
      · rfl
  · rfl

theorem State.continueAfter_frame (w : Waiter) : s.continueAfter w =
    { s with free := (s.continueAfter w).free,
             ctxs := (s.continueAfter w).ctxs, slots := (s.continueAfter w).slots,
             bus := (s.continueAfter w).bus, link := (s.continueAfter w).link,
             rules := (s.continueAfter w).rules, engines := (s.continueAfter w).engines,
             pay := (s.continueAfter w).pay } := by
  cases w with
  | cardData x =>
    unfold State.continueAfter
    dsimp only
    split
    · split <;> rfl
    · rfl
  | cardDone x =>
    unfold State.continueAfter
    dsimp only
    split
    · split
      · rw [State.takeInsertion_frame, State.endRequest_frame]
      · rfl
    · rfl
  | stagedDone x => rw [show s.continueAfter (.stagedDone x) = s.endStaged x from rfl, State.endStaged_frame]
  | engineUp e => rfl
  | payUp => rw [show s.continueAfter .payUp = s.framerNext from rfl, State.framerNext_frame]
  | commit => rfl

theorem foldl_keeps {α β : Type} (g : State → β) (f : State → α → State) (h : ∀ t a, g (f t a) = g t)
    (l : List α) (t : State) : g (l.foldl f t) = g t := by
  induction l generalizing t with
  | nil => rfl
  | cons a l ih => exact (ih _).trans (h t a)

theorem State.haltSlot_smc (x : Slot) : (s.haltSlot x).smc = s.smc := by
  have h : (s.stopNow x).smc = s.smc := by
    unfold State.stopNow
    split
    · rw [State.releaseBus_frame]; rfl
    · rw [State.releaseBus_frame, State.endRequest_frame]
  unfold State.haltSlot
  split
  · rfl
  · split
    · rfl
    · split
      · rw [State.endRequest_frame]; rfl
      · rw [State.endRequest_frame]; rfl
      · split
        · split
          · split
            · rfl
            · rfl
            · rfl
            · split
              · rfl
              · exact h
            · split
              · rfl
              · exact h
            · exact h
            · exact h
            · exact h
          · rfl
        · rfl

/-- A Band Streamer's entry to HALTED touches the orders and the engines alone. -/
theorem State.haltPage_frame (e : EngineNo) : s.haltPage e =
    { s with orders := (s.haltPage e).orders, engines := (s.haltPage e).engines } := by
  unfold State.haltPage
  split <;> first
    | rfl
    | exact State.abandonPage_frame s e
    | (rw [State.wasteCopy_frame]; rfl)

theorem State.haltEngine_frame (e : EngineNo) : s.haltEngine e =
    { s with orders := (s.haltEngine e).orders, engines := (s.haltEngine e).engines } := by
  unfold State.haltEngine
  rw [State.haltPage_frame]
  rfl

/-- No host transit message waits for the line after a drop, and one stays in flight only while it is being sent. -/
theorem Engine.dropTransit_spec (g : Engine) :
    (∀ m ∈ g.dropTransit.lineWait, m ∈ g.lineWait ∧ m.isTransit = false)
      ∧ (g.dropTransit.transit ≠ none →
          g.dropTransit.transit = g.transit ∧ g.lineBusy.any EngineMsg.isTransit = true) := by
  refine ⟨fun m hm => ?_, fun h => ?_⟩
  · simpa [Engine.dropTransit] using hm
  · by_cases hb : g.lineBusy.any EngineMsg.isTransit = true
    · simp [Engine.dropTransit, hb]
    · simp [Engine.dropTransit, hb] at h

/-- The entry to HALTED leaves the staging memory as it is. -/
theorem State.enterHalted_smc : s.enterHalted.smc = s.smc := by
  unfold State.enterHalted
  dsimp only
  rw [foldl_keeps State.smc _ (fun t a => by rw [State.haltEngine_frame])]
  unfold State.dropDeviceWaiting
  rw [foldl_keeps State.smc _ (fun t w => by rw [State.continueAfter_frame])]
  dsimp only
  rw [foldl_keeps State.smc _ (fun t y => by rw [State.discardPrefetch_frame])]
  unfold State.dropDeviceFrames
  dsimp only
  rw [foldl_keeps State.smc _ (fun t y => State.haltSlot_smc t y)]
  unfold State.raisePartState
  rw [State.raise_link]

/-- A report leaves the staging memory as it is. -/
theorem State.report_smc (c : ErrCode) (o : Option OrderNo) (a : Option ErrAddr) :
    (s.report c o a).smc = s.smc := by
  unfold State.report
  dsimp only
  split
  · unfold State.fipAction
    split
    · rw [State.raise_link]; rfl
    · rw [State.raise_link]; rfl
    · rw [State.raise_link]; rfl
    · rw [State.enterHalted_smc]; rfl
    · rw [State.enterHalted_smc]; rfl
    · rfl
    · rfl
  · rfl

/-! ## Bulk requests that come first, and the write buffer -/

/-- Without a bulk request that has to come first an access is the next. -/
theorem State.bulkWhen_skip (p : BulkReq → Bool) (h : ∀ b, s.smc.bulk = some b → p b = false) :
    s.bulkWhen p = .data s [] := by
  unfold State.bulkWhen
  split
  · rename_i b hb
    simp [h b hb]
  · rfl

/-- A bulk request that has been carried out is not carried out again. -/
theorem State.performBulk_done {b : BulkReq} {r : Status × Bytes} (h : b.result = some r) :
    s.performBulk b = .data s [] := by
  unfold State.performBulk
  rw [h]

theorem State.resumeRead_frame (x : Slot) : s.resumeRead x = { s with bus := (s.resumeRead x).bus } := by
  unfold State.resumeRead
  split
  · split <;> rfl
  · rfl

theorem State.piecesWritten_frame (x : Slot) (k : Nat) : s.piecesWritten x k =
    { s with ctxs := (s.piecesWritten x k).ctxs, bus := (s.piecesWritten x k).bus } := by
  unfold State.piecesWritten
  split
  · rfl
  · split
    · rfl
    · dsimp only
      split
      · rw [State.afterFeed_frame, State.resumeRead_frame]; rfl
      · rfl

/-! ## Messages from an engine and the framer -/

/-- Outside RUNNING a message from the engine is not classified, and does not pass. -/
theorem State.classifyUp_idle (gen : Nat) (code : Word16) (flips : List ParityFlip)
    (h : s.part ≠ .running) : s.classifyUp gen code flips = (s, false) := by
  unfold State.classifyUp; rw [if_neg h]

/-- In RUNNING it is classified once, whatever becomes of it. -/
theorem State.classifyUp_running (gen : Nat) (code : Word16) (flips : List ParityFlip)
    (h : s.part = .running) :
    (s.classifyUp gen code flips).1 = ((s.flipBits flips).classify gen (engineMsg true code)).1 := by
  unfold State.classifyUp; rw [if_pos h]

/-- A message completed while another is held leaves its classification and ENGINE_PROTOCOL. -/
theorem State.passUp_held (e : EngineNo) (gen : Nat) (code : Word16) (bytes : Bytes)
    (flips : List ParityFlip) (h : (s.eng e).upHeld = true) :
    s.passUp e gen code bytes flips = (s.classifyUp gen code flips).1.protocolError e := by
  simp [State.passUp, h]

/-- A message acts by the command of its kind. -/
theorem State.hear_of {s : State} {bytes : Bytes} {m : EngineIn} (hr : s.resetLow = false)
    (h : engineIn bytes = some m) (k : EngineIn → Option State) : s.hear bytes k = (k m).getD s := by
  simp [State.hear, hr, h]

/-- Malformed bytes are no message. -/
theorem State.hear_malformed {s : State} {bytes : Bytes} (h : engineIn bytes = none)
    (k : EngineIn → Option State) : s.hear bytes k = s := by
  simp [State.hear, h]

/-- A message goes on while the line is not idle, or bytes are still to be taken. -/
theorem State.gapEnds_skip (h : s.pay.lineIdle = false ∨ s.pay.rx ≠ []) : s.gapEnds = s := by
  unfold State.gapEnds
  rw [if_neg]
  rintro ⟨h1, h2, _⟩
  rcases h with h | h
  · simp [h] at h1
  · simp [h] at h2

/-! ## The transmit FIFO -/

/-- What has gone out on the payment line changes nothing but the oldest message in the transmit FIFO. -/
theorem State.lineSends_eq (left : Nat) :
    s.lineSends left = { s with pay := { s.pay with tx := (s.lineSends left).pay.tx } } := by
  unfold State.lineSends
  split <;> rfl

/-- As many messages are in flight after as before. -/
theorem State.lineSends_length (left : Nat) :
    (s.lineSends left).pay.tx.length = s.pay.tx.length := by
  unfold State.lineSends
  split <;> simp_all

/-- The transmit FIFO does not fill by sending. -/
theorem State.lineSends_txBytes_le (left : Nat) :
    (s.lineSends left).pay.txBytes ≤ s.pay.txBytes := by
  unfold State.lineSends Payment.txBytes TxMsg.sends
  split <;> simp_all

end Sys2Proof.Machine
end

