-- ==== Sys2Proof/Laws/PerInstr.lean ====
section
/-! SUPPORT. A statement about every command, one lemma for each: no word of the table spells it, since the table gives no row any bits. -/

namespace Sys2Proof.Laws

/-- No word spells the command. -/
def NoTableWord.Statement (i : Instr) : Prop := ∀ nbits w, decodeTableWord nbits w ≠ some i

theorem NoTableWord.powerOn : Statement (.powerOn) :=
  fun _ _ h => nomatch h
theorem NoTableWord.resetLineLow : Statement (.resetLineLow) :=
  fun _ _ h => nomatch h
theorem NoTableWord.resetLineHigh : Statement (.resetLineHigh) :=
  fun _ _ h => nomatch h
theorem NoTableWord.idleSymbol : Statement (.idleSymbol) :=
  fun _ _ h => nomatch h
theorem NoTableWord.otherSymbolAligning (decoded : Bool) : Statement (.otherSymbolAligning decoded) :=
  fun _ _ h => nomatch h
theorem NoTableWord.linkTimerExpiry : Statement (.linkTimerExpiry) :=
  fun _ _ h => nomatch h
theorem NoTableWord.pauseSymbolReceived : Statement (.pauseSymbolReceived) :=
  fun _ _ h => nomatch h
theorem NoTableWord.resumeSymbolReceived : Statement (.resumeSymbolReceived) :=
  fun _ _ h => nomatch h
theorem NoTableWord.frameReceive (bytes : Bytes) (allDecoded : Bool) : Statement (.frameReceive bytes allDecoded) :=
  fun _ _ h => nomatch h
theorem NoTableWord.badHeaderFrame : Statement (.badHeaderFrame) :=
  fun _ _ h => nomatch h
theorem NoTableWord.misroutedFrame : Statement (.misroutedFrame) :=
  fun _ _ h => nomatch h
theorem NoTableWord.unknownRequest : Statement (.unknownRequest) :=
  fun _ _ h => nomatch h
theorem NoTableWord.frameSendStart : Statement (.frameSendStart) :=
  fun _ _ h => nomatch h
theorem NoTableWord.frameSendEnd : Statement (.frameSendEnd) :=
  fun _ _ h => nomatch h
theorem NoTableWord.upstreamPlaceWaiting : Statement (.upstreamPlaceWaiting) :=
  fun _ _ h => nomatch h
theorem NoTableWord.identifyPart : Statement (.identifyPart) :=
  fun _ _ h => nomatch h
theorem NoTableWord.configure : Statement (.configure) :=
  fun _ _ h => nomatch h
theorem NoTableWord.resetPart : Statement (.resetPart) :=
  fun _ _ h => nomatch h
theorem NoTableWord.readBank : Statement (.readBank) :=
  fun _ _ h => nomatch h
theorem NoTableWord.clearBank : Statement (.clearBank) :=
  fun _ _ h => nomatch h
theorem NoTableWord.setBankMask : Statement (.setBankMask) :=
  fun _ _ h => nomatch h
theorem NoTableWord.clearFault : Statement (.clearFault) :=
  fun _ _ h => nomatch h
theorem NoTableWord.openOrder : Statement (.openOrder) :=
  fun _ _ h => nomatch h
theorem NoTableWord.bindSlot : Statement (.bindSlot) :=
  fun _ _ h => nomatch h
theorem NoTableWord.unbindSlot : Statement (.unbindSlot) :=
  fun _ _ h => nomatch h
theorem NoTableWord.cancelOrder : Statement (.cancelOrder) :=
  fun _ _ h => nomatch h
theorem NoTableWord.closeOrder : Statement (.closeOrder) :=
  fun _ _ h => nomatch h
theorem NoTableWord.readOrder : Statement (.readOrder) :=
  fun _ _ h => nomatch h
theorem NoTableWord.resolvePayment : Statement (.resolvePayment) :=
  fun _ _ h => nomatch h
theorem NoTableWord.growWindow : Statement (.growWindow) :=
  fun _ _ h => nomatch h
theorem NoTableWord.readPool : Statement (.readPool) :=
  fun _ _ h => nomatch h
theorem NoTableWord.loadRules : Statement (.loadRules) :=
  fun _ _ h => nomatch h
theorem NoTableWord.loadPrices : Statement (.loadPrices) :=
  fun _ _ h => nomatch h
theorem NoTableWord.loadSlotProfile : Statement (.loadSlotProfile) :=
  fun _ _ h => nomatch h
theorem NoTableWord.loadEngineProfile : Statement (.loadEngineProfile) :=
  fun _ _ h => nomatch h
theorem NoTableWord.loadPaymentProfile : Statement (.loadPaymentProfile) :=
  fun _ _ h => nomatch h
theorem NoTableWord.discardPending : Statement (.discardPending) :=
  fun _ _ h => nomatch h
theorem NoTableWord.readImage (flips : List ParityFlip) : Statement (.readImage flips) :=
  fun _ _ h => nomatch h
theorem NoTableWord.commitTables : Statement (.commitTables) :=
  fun _ _ h => nomatch h
theorem NoTableWord.submitItem : Statement (.submitItem) :=
  fun _ _ h => nomatch h
theorem NoTableWord.resumeItem : Statement (.resumeItem) :=
  fun _ _ h => nomatch h
theorem NoTableWord.withdrawItem : Statement (.withdrawItem) :=
  fun _ _ h => nomatch h
theorem NoTableWord.readEngine : Statement (.readEngine) :=
  fun _ _ h => nomatch h
theorem NoTableWord.bulkRead : Statement (.bulkRead) :=
  fun _ _ h => nomatch h
theorem NoTableWord.bulkWrite : Statement (.bulkWrite) :=
  fun _ _ h => nomatch h
theorem NoTableWord.bulkAccessComplete (upsets : List Upset) : Statement (.bulkAccessComplete upsets) :=
  fun _ _ h => nomatch h
theorem NoTableWord.trainingSucceeded : Statement (.trainingSucceeded) :=
  fun _ _ h => nomatch h
theorem NoTableWord.trainingFailed (at_ : TrainStep) : Statement (.trainingFailed at_) :=
  fun _ _ h => nomatch h
theorem NoTableWord.scrubStart : Statement (.scrubStart) :=
  fun _ _ h => nomatch h
theorem NoTableWord.scrubComplete (clean : Bool) : Statement (.scrubComplete clean) :=
  fun _ _ h => nomatch h
theorem NoTableWord.cardDetectChange (slot : Slot) (present : Bool) : Statement (.cardDetectChange slot present) :=
  fun _ _ h => nomatch h
theorem NoTableWord.cardInsertion (slot : Slot) (locked : Bool) : Statement (.cardInsertion slot locked) :=
  fun _ _ h => nomatch h
theorem NoTableWord.cardRemoval (slot : Slot) (flips : List ParityFlip) : Statement (.cardRemoval slot flips) :=
  fun _ _ h => nomatch h
theorem NoTableWord.cardIdentify (flips : List ParityFlip) : Statement (.cardIdentify flips) :=
  fun _ _ h => nomatch h
theorem NoTableWord.cardStatus (flips : List ParityFlip) : Statement (.cardStatus flips) :=
  fun _ _ h => nomatch h
theorem NoTableWord.cardReadToLink (flips : List ParityFlip) : Statement (.cardReadToLink flips) :=
  fun _ _ h => nomatch h
theorem NoTableWord.cardReadStaged (flips : List ParityFlip) : Statement (.cardReadStaged flips) :=
  fun _ _ h => nomatch h
theorem NoTableWord.cardWriteRequest (locked : Bool) (flips : List ParityFlip) : Statement (.cardWriteRequest locked flips) :=
  fun _ _ h => nomatch h
theorem NoTableWord.cardRaw (locked : Bool) (flips : List ParityFlip) : Statement (.cardRaw locked flips) :=
  fun _ _ h => nomatch h
theorem NoTableWord.writeDataFrame : Statement (.writeDataFrame) :=
  fun _ _ h => nomatch h
theorem NoTableWord.busGrant : Statement (.busGrant) :=
  fun _ _ h => nomatch h
theorem NoTableWord.cardCommandResponse (answer : CardAnswer) (locked : Bool) (flips : List ParityFlip) : Statement (.cardCommandResponse answer locked flips) :=
  fun _ _ h => nomatch h
theorem NoTableWord.cardBlockReceived (data : Bytes) (checkOk : Bool) (flips : List ParityFlip) : Statement (.cardBlockReceived data checkOk flips) :=
  fun _ _ h => nomatch h
theorem NoTableWord.cardCheckToken (accepted : Bool) (flips : List ParityFlip) : Statement (.cardCheckToken accepted flips) :=
  fun _ _ h => nomatch h
theorem NoTableWord.cardBusyRelease (flips : List ParityFlip) : Statement (.cardBusyRelease flips) :=
  fun _ _ h => nomatch h
theorem NoTableWord.cardResponseTimeout (flips : List ParityFlip) : Statement (.cardResponseTimeout flips) :=
  fun _ _ h => nomatch h
theorem NoTableWord.cardBlockTimeout (flips : List ParityFlip) : Statement (.cardBlockTimeout flips) :=
  fun _ _ h => nomatch h
theorem NoTableWord.identifyReadyTimeout (flips : List ParityFlip) : Statement (.identifyReadyTimeout flips) :=
  fun _ _ h => nomatch h
theorem NoTableWord.writeBufferDrain (drain : DrainRun) : Statement (.writeBufferDrain drain) :=
  fun _ _ h => nomatch h
theorem NoTableWord.stagedReadComplete (slot : Slot) (flips : List ParityFlip) : Statement (.stagedReadComplete slot flips) :=
  fun _ _ h => nomatch h
theorem NoTableWord.schedulerSearch : Statement (.schedulerSearch) :=
  fun _ _ h => nomatch h
theorem NoTableWord.queueHeadTake (engine : EngineNo) : Statement (.queueHeadTake engine) :=
  fun _ _ h => nomatch h
theorem NoTableWord.engineSendStart (engine : EngineNo) : Statement (.engineSendStart engine) :=
  fun _ _ h => nomatch h
theorem NoTableWord.engineSendDone (engine : EngineNo) : Statement (.engineSendDone engine) :=
  fun _ _ h => nomatch h
theorem NoTableWord.engineMessageBegin (engine : EngineNo) : Statement (.engineMessageBegin engine) :=
  fun _ _ h => nomatch h
theorem NoTableWord.engineMessageMalformed (rx : EngineRx) : Statement (.engineMessageMalformed rx) :=
  fun _ _ h => nomatch h
theorem NoTableWord.credit (engine : EngineNo) (bytes : Bytes) : Statement (.credit engine bytes) :=
  fun _ _ h => nomatch h
theorem NoTableWord.bandReadEnd (engine : EngineNo) (upsets : List Upset) : Statement (.bandReadEnd engine upsets) :=
  fun _ _ h => nomatch h
theorem NoTableWord.printed (rx : EngineRx) : Statement (.printed rx) :=
  fun _ _ h => nomatch h
theorem NoTableWord.fault (engine : EngineNo) (bytes : Bytes) : Statement (.fault engine bytes) :=
  fun _ _ h => nomatch h
theorem NoTableWord.abandoned (rx : EngineRx) : Statement (.abandoned rx) :=
  fun _ _ h => nomatch h
theorem NoTableWord.engineResponseTimeout (engine : EngineNo) : Statement (.engineResponseTimeout engine) :=
  fun _ _ h => nomatch h
theorem NoTableWord.pageTimeout (engine : EngineNo) : Statement (.pageTimeout engine) :=
  fun _ _ h => nomatch h
theorem NoTableWord.engineIdleTimeout (engine : EngineNo) : Statement (.engineIdleTimeout engine) :=
  fun _ _ h => nomatch h
theorem NoTableWord.engineStatusReport (engine : EngineNo) (bytes : Bytes) : Statement (.engineStatusReport engine bytes) :=
  fun _ _ h => nomatch h
theorem NoTableWord.engineTransitUp (engine : EngineNo) (head body check : Bytes) (flips : List ParityFlip) :
    Statement (.engineTransitUp engine head body check flips) :=
  fun _ _ h => nomatch h
theorem NoTableWord.engineTransitDown (flips : List ParityFlip) : Statement (.engineTransitDown flips) :=
  fun _ _ h => nomatch h
theorem NoTableWord.paymentTransitDown (left : Nat) (flips : List ParityFlip) : Statement (.paymentTransitDown left flips) :=
  fun _ _ h => nomatch h
theorem NoTableWord.paymentMessageSent : Statement (.paymentMessageSent) :=
  fun _ _ h => nomatch h
theorem NoTableWord.paymentRxByte (byte : Byte) (damaged : Bool) : Statement (.paymentRxByte byte damaged) :=
  fun _ _ h => nomatch h
theorem NoTableWord.framerTakeByte : Statement (.framerTakeByte) :=
  fun _ _ h => nomatch h
theorem NoTableWord.interByteTimeout : Statement (.interByteTimeout) :=
  fun _ _ h => nomatch h
theorem NoTableWord.resyncIdleGap : Statement (.resyncIdleGap) :=
  fun _ _ h => nomatch h
theorem NoTableWord.terminalMessageComplete (flips : List ParityFlip) : Statement (.terminalMessageComplete flips) :=
  fun _ _ h => nomatch h
theorem NoTableWord.paymentTimeout : Statement (.paymentTimeout) :=
  fun _ _ h => nomatch h
theorem NoTableWord.cardCommandSent (flips : List ParityFlip) : Statement (.cardCommandSent flips) :=
  fun _ _ h => nomatch h
theorem NoTableWord.frameGrowsPastLimit : Statement (.frameGrowsPastLimit) :=
  fun _ _ h => nomatch h

end Sys2Proof.Laws
end

