-- ==== Sys2Proof/WellFormed.lean ====
section
/-! DEFINITION. Which commands can be given at all: the sizes the manual fixes for what a device or the host sends. -/

namespace Sys2Proof

/-- A flip names a bit of a 12-byte entry of a rule list of at most 128 entries (R51, R206). -/
def ParityFlip.wellFormed (f : ParityFlip) : Bool := f.index < 128 && f.bit < 96

/-- An upset lies in the largest window (R34). -/
def Upset.wellFormed (u : Upset) : Bool := u.offset < Config.windowLimit * Config.pageBytes

/-- A card's answer has the sizes of R79 and R82. -/
def CardAnswer.wellFormed : CardAnswer → Bool
  | .identity record _ _ => record.length == 16
  | .raw response => response.length == 4 || response.length == 16
  | .damaged | .wrongCommand | .cardError | .ack | .notReady | .ready | .status _ => true

/-- Operands with the sizes of the manual: a frame that has ended holds at most 2,060 bytes (R188), a card block 512, an engine message that is not malformed at most 2,048 (R207). -/
def Instr.wellFormed : Instr → Bool
  | .frameReceive bytes _ => bytes.length ≤ Config.frameLimit
  | .cardBlockReceived data _ flips => data.length == Config.blockBytes && flips.all ParityFlip.wellFormed
  | .cardCommandResponse answer _ flips => answer.wellFormed && flips.all ParityFlip.wellFormed
  | .engineTransitUp _ head body check flips =>
    (head ++ body ++ check).length ≤ 2048 && flips.all ParityFlip.wellFormed
  | .credit _ bytes | .fault _ bytes | .engineStatusReport _ bytes => bytes.length ≤ 2048
  | .printed rx | .abandoned rx => rx.bytes.length ≤ 2048
  | .bulkAccessComplete upsets => upsets.all Upset.wellFormed
  | .bandReadEnd _ upsets => upsets.all Upset.wellFormed
  | .readImage flips | .cardRemoval _ flips | .cardIdentify flips | .cardStatus flips
  | .cardReadToLink flips | .cardReadStaged flips | .cardWriteRequest _ flips | .cardRaw _ flips
  | .cardCheckToken _ flips | .cardBusyRelease flips | .cardResponseTimeout flips
  | .cardBlockTimeout flips | .identifyReadyTimeout flips | .stagedReadComplete _ flips
  | .engineTransitDown flips | .paymentTransitDown _ flips | .terminalMessageComplete flips
  | .cardCommandSent flips => flips.all ParityFlip.wellFormed
  | .powerOn | .resetLineLow | .resetLineHigh | .idleSymbol | .otherSymbolAligning _
  | .linkTimerExpiry | .pauseSymbolReceived | .resumeSymbolReceived | .badHeaderFrame
  | .misroutedFrame | .unknownRequest | .frameSendStart | .frameSendEnd | .upstreamPlaceWaiting
  | .identifyPart | .configure | .resetPart | .readBank | .clearBank | .setBankMask | .clearFault
  | .openOrder | .bindSlot | .unbindSlot | .cancelOrder | .closeOrder | .readOrder
  | .resolvePayment | .growWindow | .readPool | .loadRules | .loadPrices | .loadSlotProfile
  | .loadEngineProfile | .loadPaymentProfile | .discardPending | .commitTables | .submitItem
  | .resumeItem | .withdrawItem | .readEngine | .bulkRead | .bulkWrite | .trainingSucceeded
  | .trainingFailed _ | .scrubStart | .scrubComplete _ | .cardDetectChange _ _
  | .cardInsertion _ _ | .writeDataFrame | .busGrant | .writeBufferDrain _ | .schedulerSearch
  | .queueHeadTake _ | .engineSendStart _ | .engineSendDone _ | .engineMessageBegin _
  | .engineMessageMalformed _ | .engineResponseTimeout _
  | .pageTimeout _ | .engineIdleTimeout _ | .paymentMessageSent | .paymentRxByte _ _
  | .framerTakeByte | .interByteTimeout | .resyncIdleGap | .paymentTimeout
  | .frameGrowsPastLimit => true

end Sys2Proof
end

