-- ==== Sys2Proof/Tests/Slice0.lean ====
section
/-! SUPPORT. The model's own tests: ill-formed operands, the check values of the manual, and for every statement that has hypotheses a state and operands that meet them. -/

namespace Sys2Proof.Tests

open Sys2Proof.Machine

/-! ## Small states -/

/-- A RUNNING part with a trained DRAM and the link UP. -/
def idle : State :=
  { State.reset with
    part := .running,
    link := { State.reset.link with state := .up, notices := [] },
    smc := { State.reset.smc with
      geometry := some { size := 256, ecc := true, grade := 1 }, trained := true,
      freePool := [3, 4, 5], scrubQ := [{ page := 6, order := none }] } }

/-- A frame from the host. -/
def frame (chan kind : Nat) (order : Byte) (payload : Bytes) : DownFrame :=
  { chan := chan, kind := kind, order := order, flags := 0, length := payload.length, tag := 7,
    payload := payload }

/-- A management request. -/
def request (r : MgmtReq) (order : Byte) (fields : Bytes) : DownFrame :=
  frame 0 0 order (toBytes 2 r.code ++ fields)

/-- A state whose downstream buffer holds one frame. -/
def holding (s : State) (f : DownFrame) : State := { s with link := { s.link with downBuf := [f] } }

theorem takes_holding {s : State} {f : DownFrame} {row : TakeRow} (hb : s.link.downBuf = [])
    (hp : s.link.rxPaused = false) (hr : f.row = row) (hm : (holding s f).mayTake f = true) :
    (holding s f).Takes row f s := by
  refine ⟨hr, [], ?_, ?_⟩
  · show takeFirst (holding s f).mayTake [f] = some (f, [])
    simp [takeFirst, hm]
  · cases s with
    | mk a b c d e g l => cases l; simp_all [State.afterTake, State.followHeld, holding]

/-- A state with order 0 as given. -/
def withOrder0 (s : State) (o : Order) : State := { s with orders := s.orders.set 0 o }

/-- An OPEN order with two pages and no items. -/
def order0 : Order :=
  { Order.blank with
    state := .open_, map := [{ page := 1, poisoned := false }, { page := 2, poisoned := false }] }

/-- An item in a state. -/
def item (st : ItemState) : Item :=
  { choice := .either, cls := 0, price := 100, media := 1, copies := 2, delivered := 0, wasted := 0,
    offset := 0, skip := 0, width := 1, rows := 5, bandRows := 2, state := st }

/-- The idle part with order 0 open. -/
def opened : State := withOrder0 idle order0

/-! ## Checks of operands -/

theorem test_frame_too_long : (Instr.frameReceive (List.replicate 2061 0) true).wellFormed = false := by
  decide +kernel
theorem test_block_not_512 : (Instr.cardBlockReceived [0] true []).wellFormed = false := by decide +kernel
theorem test_record_not_16 :
    (Instr.cardCommandResponse (.identity [0] 1 0) false []).wellFormed = false := by decide
theorem test_raw_response_size :
    (Instr.cardCommandResponse (.raw [0, 1]) false []).wellFormed = false := by decide
theorem test_flip_index : (Instr.cardStatus [{ image := .active, index := 128, bit := 0 }]).wellFormed
    = false := by decide
theorem test_flip_bit : (Instr.readImage [{ image := .active, index := 0, bit := 96 }]).wellFormed
    = false := by decide
theorem test_engine_body : (Instr.engineTransitUp .one (List.replicate 6 0) (List.replicate 2041 0) [0, 0] []).wellFormed
    = false := by decide +kernel
theorem test_report_body : (Instr.engineStatusReport .one (List.replicate 2049 0)).wellFormed = false := by
  decide +kernel
theorem test_credit_body : (Instr.credit .one (List.replicate 2049 0)).wellFormed = false := by
  decide +kernel
theorem test_bulk_upset : (Instr.bulkAccessComplete [{ offset := 134217728, err := .single }]).wellFormed
    = false := by decide
theorem test_band_upset : (Instr.bandReadEnd .one [{ offset := 134217728, err := .double }]).wellFormed
    = false := by decide

/-! ## Check values (R202) -/

theorem test_crc32 : crc32 [0x31, 0x32, 0x33, 0x34, 0x35, 0x36, 0x37, 0x38, 0x39] = 0xCBF43926 := by
  decide +kernel
theorem test_crc16 : crc16 [0x31, 0x32, 0x33, 0x34, 0x35, 0x36, 0x37, 0x38, 0x39] = 0x29B1 := by
  decide +kernel

/-- A CREDIT of 2, a FAULT of JAM and a status report from their bytes; a CREDIT of 5, a cause above 5, a wrong check value and a body that is short of its length are malformed (R131, R207). -/
theorem test_engine_in :
    let msg := fun m : Bytes => m ++ toBytes 2 (crc16 m).toNat
    engineIn (msg [0, 0, 1, 0x80, 0, 1, 2]) = some (.credit 2)
      ∧ engineIn (msg [0, 0, 1, 0x82, 0, 1, 2]) = some (.fault .jam)
      ∧ engineIn (msg [1, 9, 0, 1, 0, 2, 1, 3]) = some (.transit 1 [1, 3])
      ∧ engineIn (msg [0, 0, 1, 0x80, 0, 1, 5]) = none ∧ engineIn (msg [0, 0, 1, 0x82, 0, 1, 6]) = none
      ∧ engineIn ([0, 0, 1, 0x81, 0, 0] ++ [0, 0]) = none ∧ engineIn (msg [0, 0, 1, 0x80, 0, 2, 2]) = none
      ∧ engineIn (msg [0, 0, 1, 0, 0, 0]) = none := by
  decide +kernel

theorem test_running : idle.part = .running ∧ (opened.order 0).state = .open_ := by decide
theorem test_takes : (holding idle (request .openOrder 0xFF [0, 0, 0, 1, 7])).Takes (.mgmt .openOrder)
    (request .openOrder 0xFF [0, 0, 0, 1, 7]) idle :=
  takes_holding rfl rfl (by decide) (by decide)

/-! ## Witnesses: the hypotheses of the statements are met

Each theorem names the statement whose hypotheses it meets, on a concrete state and operands; where the clauses of a statement differ in their conditions, a witness for each. -/

/-- f is the only frame and the part may take it. -/
abbrev Ready (s : State) (row : TakeRow) (f : DownFrame) : Prop :=
  s.link.downBuf = [] ∧ s.link.rxPaused = false ∧ f.row = row ∧ (holding s f).mayTake f = true

theorem takes_of {s : State} {row : TakeRow} {f : DownFrame} (h : Ready s row f) :
    (holding s f).Takes row f s :=
  takes_holding h.1 h.2.1 h.2.2.1 h.2.2.2

/-- What holds of the value holds of every value an equation gives. -/
theorem of_some {α : Type} {o : Option α} {v : α} {P : α → Prop} (h : o = some v) (hP : P v) :
    ∀ g, o = some g → P g := by
  intro g hg
  rw [h] at hg
  cases hg
  exact hP

theorem of_none {α : Type} {o : Option α} {P : α → Prop} (h : o = none) : ∀ g, o = some g → P g := by
  intro g hg
  rw [h] at hg
  cases hg

/-! ### The step and the invariants -/

/-- StepRunsFrontCommandOrIdles. -/
theorem test_hyps_idle_queue : State.reset.pending = [] := rfl

/-- The reset state with one command that acts. -/
def oneCommand : State := { State.reset with pending := [.idleSymbol] }

/-- EveryStepKeepsDramCanonical, …CountsInRange, …UpstreamQueueBounded, …PaymentsAgreed, …BindingsAgreed, …PagesInOnePlace. -/
theorem test_hyps_invariants :
    DramCanonical oneCommand ∧ CountsInRange oneCommand ∧ UpQueueBounded oneCommand
      ∧ PaymentsAgree oneCommand ∧ BindingsAgree oneCommand ∧ PagesInOnePlace oneCommand
      ∧ ∃ t, step oneCommand = .next t := by
  refine ⟨by unfold DramCanonical; decide, ⟨by decide, by decide, by decide, ?_, by decide, by decide, ?_⟩,
    ⟨by decide, by decide⟩, ⟨by decide, ?_, ?_⟩, ⟨?_, ?_⟩, ⟨by decide, by decide⟩, _, rfl⟩
  · intro b; cases b <;> decide
  · intro e; cases e <;> decide
  · intro n
    constructor
    · intro h; revert n; decide
    · rintro ⟨m, hm, _⟩; cases hm
  · intro m hm; cases hm
  · intro x n; cases x <;> revert n <;> decide
  · intro x n h; cases x <;> cases h

/-- EveryStepKeepsPrintPlaces. -/
theorem test_hyps_print_places : PrintPlaces oneCommand := by
  have he : ∀ (n : OrderNo) (i : Nat), (oneCommand.order n).items[i]? = none := by
    intro n i
    rw [show (oneCommand.order n).items = [] by revert n; decide]
    rfl
  refine ⟨by decide, ?_, ?_, ?_, ?_, ?_, ?_, ?_⟩
  · intro r
    constructor
    · intro h; cases h
    · rintro ⟨it, h, _⟩; rw [he] at h; cases h
  · intro r
    constructor
    · intro h; cases h
    · rintro ⟨it, h, _⟩; rw [he] at h; cases h
  · intro r h; cases h
  · intro r h; cases h
  · intro n h; revert n; decide
  · intro e; cases e <;> decide
  · intro e; cases e <;> decide

/-! ### The Order Link -/

/-- ParseReadsBackEveryFrame: the empty payload and a longer one. -/
theorem test_hyps_parse : (frame 0 0 0 []).fits = true ∧ (frame 15 15 0xFF (List.replicate 2048 1)).fits = true := by
  decide +kernel

/-- A state that holds n frames. -/
def holdingMany (n : Nat) (paused : Bool) : State :=
  { idle with link := { idle.link with downBuf := List.replicate n (frame 0 0 0 []), rxPaused := paused } }

/-- TakesFollowArrivalOrder: a BULK frame stays behind while a bulk request is carried out; the counts at which the receive pause state changes. -/
theorem test_hyps_take_order :
    let bulkFrame := frame 9 0 0 [0, 0x50, 0, 0, 0, 0, 0, 8]
    let s : State := { idle with
      smc := { idle.smc with bulk := some { tag := 1, order := 0, offset := 0, kind := .read 1, result := none } },
      link := { idle.link with downBuf := [bulkFrame, request .readPool 0xFF []] } }
    s.nextTake = some (request .readPool 0xFF [], [bulkFrame])
      ∧ (holdingMany 6 false).link.downBuf.length = 6 ∧ (holdingMany 2 true).link.downBuf.length = 2
      ∧ (holdingMany 5 false).link.rxPaused = false ∧ (holdingMany 3 true).link.rxPaused = true := by
  decide +kernel

/-- FramesAreReceivedInThreeSteps: 8 frames held; 11 bytes; a sound frame. -/
theorem test_hyps_receive :
    (holdingMany 8 true).link.state = .up ∧ (holdingMany 8 true).link.discarding = false
      ∧ (holdingMany 8 true).resetLow = false ∧ idle.link.state = .up ∧ idle.link.discarding = false
      ∧ idle.link.downBuf.length < 8 ∧ (List.replicate 11 (0 : Byte)).length < 12
      ∧ parseFrame (request .readPool 0xFF []).wire = some (request .readPool 0xFF []) := by
  decide +kernel

/-- A state with the link in another state. -/
def linkIn (st : LinkState) (n : Nat) : State :=
  { State.reset with link := { State.reset.link with state := st, alignCount := n } }

/-- SymbolsMoveTheLink: each link state, and the counts around 32. -/
theorem test_hyps_symbols :
    (linkIn .down 0).link.state = .down ∧ (linkIn .aligning 30).link.alignCount + 1 < 32
      ∧ 32 ≤ (linkIn .aligning 31).link.alignCount + 1 ∧ (linkIn .up 0).link.state = .up := by
  decide

/-- A frame of the part. -/
def upFrame : UpFrame := { chan := 0, kind := .response, order := 0xFF, fip := false, tag := 7, payload := [0] }

/-- A link with k frames queued, n waiting and one held. -/
def crowded (st : LinkState) (k n : Nat) : State :=
  { idle with link := { idle.link with
    state := st, downBuf := [request .readPool 0xFF []],
    upQueue := List.replicate k upFrame,
    waiting := List.replicate n { owner := .engineUp .one, frame := upFrame } } }

/-- A take leaves the free places to the frames that wait (TakesFollowArrivalOrder): the last place owed, one beyond, no frame waiting, a link that is not UP. -/
theorem test_take_leaves_owed_places :
    let may := fun s : State => s.mayTake (request .readPool 0xFF [])
    may (crowded .up 14 2) = false ∧ may (crowded .up 13 2) = true ∧ may (crowded .up 15 0) = true
      ∧ may (crowded .up 16 0) = false ∧ may (crowded .aligning 16 2) = true
      ∧ (crowded .up 14 2).nextTake = none := by
  decide +kernel

/-- A notice. -/
def notice : Notice := { kind := .poolLow, order := none, fip := false, body := [0] }

/-- An UP link whose queues hold what is given. -/
def sendingLink (last : Supplier) (up : List UpFrame) (ns : List Notice) (b : Option Sending) : State :=
  { idle with link := { idle.link with upQueue := up, notices := ns, lastSupplier := last, sending := b } }

/-- TransmitterTakesQueuesInTurn. -/
theorem test_hyps_transmit :
    (sendingLink .upstream [upFrame] [] none).link.upQueue.head? = some upFrame
      ∧ (sendingLink .upstream [] [notice] none).link.notices.head? = some notice
      ∧ (sendingLink .notices [upFrame] [notice] none).link.lastSupplier = .notices
      ∧ (sendingLink .upstream [upFrame] [notice] none).link.lastSupplier = .upstream
      ∧ (sendingLink .upstream [upFrame] [] none).link.txHeld = false
      ∧ (sendingLink .upstream [upFrame] [] (some { source := .upstream, wire := [1] })).link.sending
          = some { source := .upstream, wire := [1] }
      ∧ (sendingLink .upstream [] [notice] (some { source := .notices, wire := [1] })).link.sending
          = some { source := .notices, wire := [1] } := by
  decide

/-- FramesAndNoticesJoinTheirQueues: room, no room, a frame that waits, 63 and 64 notices. -/
theorem test_hyps_queues :
    let full := sendingLink .upstream (List.replicate 16 upFrame) [] none
    let waits : State := { idle with link := { idle.link with
      waiting := [{ owner := .cardDone .a, frame := upFrame }] } }
    idle.room = true ∧ full.room = false ∧ full.link.state = .up ∧ State.reset.link.state ≠ .up
      ∧ waits.link.waiting = { owner := .cardDone .a, frame := upFrame } :: [] ∧ waits.room = true
      ∧ (sendingLink .upstream [] (List.replicate 63 notice) none).link.notices.length < 64
      ∧ 64 ≤ (sendingLink .upstream [] (List.replicate 64 notice) none).link.notices.length := by
  decide +kernel

/-- UnusableFramesAreAnswered: channels 1 and 15, a misrouted kind, a TRANSIT and a DATA frame on BULK in each part state, an unknown code, one byte of payload, an unknown card request. -/
theorem test_hyps_unusable :
    Ready idle .badHeader (frame 15 0 0 []) ∧ Ready idle .badHeader (frame 1 0 0 [])
      ∧ Ready idle .misrouted (frame 0 2 0 [])
      ∧ (∀ p ∈ [PartState.unconfigured, .training, .running, .halted], ∀ k ∈ [2, 5],
          Ready { idle with part := p } .misrouted (frame 9 k 0 [1]))
      ∧ Ready idle .unknown (frame 0 0 0 [0xFF, 0xFF]) ∧ Ready idle .unknown (frame 0 0 0 [0])
      ∧ Ready idle .unknown (frame (slotChannel .d) 2 0 [9]) ∧ idle.collecting .d = false := by
  decide +kernel

/-! ### The part -/

/-- The idle part in another part state. -/
def inPart (p : PartState) : State := { idle with part := p }

/-- PartStateGatesManagementRequests: every part state, and a request of each column. -/
theorem test_hyps_gates (p : PartState) :
    Ready (inPart p) (.mgmt .clearBank) (request .clearBank 0xFF [0, 0])
      ∧ Ready (inPart p) (.mgmt .configure) (request .configure 0xFF [])
      ∧ Ready (inPart p) (.mgmt .readOrder) (request .readOrder 0 [])
      ∧ Ready (inPart p) (.mgmt .openOrder) (request .openOrder 0xFF [0, 0, 0, 1, 7])
      ∧ (inPart p).part = p := by
  cases p <;> decide

/-- ReportRequestsAnswerAndChangeNothing, with an order in use and a FREE one. -/
theorem test_hyps_reports :
    Ready opened (.mgmt .identifyPart) (request .identifyPart 0xFF [])
      ∧ Ready opened (.mgmt .readPool) (request .readPool 0xFF [])
      ∧ Ready opened (.mgmt .readOrder) (request .readOrder 0 []) ∧ (opened.order 0).state ≠ .free
      ∧ Ready opened (.mgmt .readOrder) (request .readOrder 15 []) ∧ (opened.order 15).state = .free
      ∧ Ready opened (.mgmt .readImage) (request .readImage 0xFF [0, 0, 255, 64])
      ∧ (request .readImage 0xFF [0, 0, 255, 64]).fields = b1 0 ++ (b1 0 ++ b1 255 ++ b1 64)
      ∧ (request .readImage 0xFF [1, 2, 3]).fields = b1 1 ++ (b1 2 ++ b1 (slotNo .d).val)
      ∧ Ready opened (.mgmt .readEngine) (request .readEngine 0xFF [2])
      ∧ (request .readEngine 0xFF [2]).fields = b1 (engineNum .two) := by
  decide

/-- ResetsReturnEveryBlock. -/
theorem test_hyps_resets :
    Ready opened (.mgmt .resetPart) (request .resetPart 0xFF [])
      ∧ (request .resetPart 0xFF []).fields = [] ∧ opened.resetLow = false
      ∧ ({ opened with resetLow := true } : State).resetLow = true := by
  decide

/-- A part in TRAINING. -/
def training : State :=
  { State.reset with
    part := .training, smc := { State.reset.smc with geometry := some { size := 256, ecc := true, grade := 1 } } }

/-- TrainingConfiguresTheDram: the bounds of the fields, a timeout out of range, and FIP clear and set with the error enabled and disabled. -/
theorem test_hyps_training :
    Ready (inPart .unconfigured) (.mgmt .configure) (request .configure 0xFF [4, 0, 1, 2, 3, 0xE8, 0x40, 0])
      ∧ beNat [(4 : Byte), 0] ∈ [256, 512, 1024] ∧ beNat [(3 : Byte), 0xE8] ≤ 1000
      ∧ beNat [(0x40 : Byte), 0] ≤ 16384 ∧ 1000 < beNat [(3 : Byte), 0xE9]
      ∧ training.part = .training ∧ training.resetLow = false
      ∧ training.smc.geometry = some { size := 256, ecc := true, grade := 1 }
      ∧ (training.bank .staging).mask.getLsbD 3 = true ∧ training.fip = false
      ∧ ((training.updBank .staging (fun b => { b with mask := 0 })).bank .staging).mask.getLsbD 3 = false
      ∧ ({ training with fip := true } : State).fip = true := by
  decide

/-- An error code. -/
def code (c : Cause) : ErrCode := { unit := .smc, op := .bulkRead, cause := c }

/-- BankCapturePolicy: the rows of its table. -/
theorem test_hyps_capture :
    let s1 := State.reset.report (code .eccUncorrected) none none
    let s2 := State.reset.report (code .eccCorrected) none none
    let s3 := (State.reset.updBank .staging (fun b => { b with mask := 0 })).report (code .eccCorrected) none none
    let s4 := s3.updBank .staging (fun b => { b with mask := 0x0F })
    (State.reset.bank .staging).record = none
      ∧ ((s1.bank .staging).record.map (fun r => r.uncorrected) = some true)
      ∧ ((s2.bank .staging).record.map (fun r => (r.uncorrected, r.enabled)) = some (false, true))
      ∧ ((s4.bank .staging).record.map (fun r => (r.uncorrected, r.enabled)) = some (false, false))
      ∧ (s4.bank .staging).mask.getLsbD Cause.eccCorrected.idx = true
      ∧ (code .eccUncorrected).cause.uncorrected = true ∧ (code .eccCorrected).cause.uncorrected = false := by
  decide

/-- UncorrectedErrorsActOnFip and EntryToHaltedStopsDeviceTraffic. -/
theorem test_hyps_fip :
    (code .eccUncorrected).cause.uncorrected = true
      ∧ (idle.bank .staging).mask.getLsbD Cause.eccUncorrected.idx = true
      ∧ ((idle.updBank .staging (fun b => { b with mask := 0 })).bank .staging).mask.getLsbD
          Cause.eccUncorrected.idx = false
      ∧ idle.part = .running ∧ idle.part ≠ .halted ∧ idle.fip = false
      ∧ ({ idle with fip := true } : State).fip = true ∧ (inPart .halted).part = .halted
      ∧ idle.link.notices.length < 64 := by
  decide

/-- BankRequestsActOnOneBank: the last bank, a mask within its causes and one outside. -/
theorem test_hyps_banks :
    Ready idle (.mgmt .readBank) (request .readBank 0xFF [5])
      ∧ (request .readBank 0xFF [5]).fields = b1 (bankNo .tables).val
      ∧ Ready idle (.mgmt .clearBank) (request .clearBank 0xFF [0, 1])
      ∧ (request .clearBank 0xFF [0, 1]).fields = b1 (bankNo .link).val ++ flagByte true
      ∧ Ready idle (.mgmt .setBankMask) (request .setBankMask 0xFF [0, 7])
      ∧ (7 : Byte) &&& ~~~ bankCauses .link = 0 ∧ (8 : Byte) &&& ~~~ bankCauses .link ≠ 0
      ∧ Ready idle (.mgmt .clearFault) (request .clearFault 0xFF []) := by
  decide

/-! ### Staging memory -/

/-- A part that scrubs the last page of a CLOSING order. -/
def scrubs : State :=
  { idle with
    smc := { idle.smc with
      scrubQ := [{ page := 6, order := some 0 }], scrubbing := true, dram := [(65536 * 6 + 3, 5)] },
    orders := idle.orders.set 0 { order0 with state := .closing, awaiting := 1, map := [] } }

/-- ScrubReleasesPagesAndOrders. -/
theorem test_hyps_scrub :
    scrubs.smc.trained = true ∧ scrubs.resetLow = false ∧ scrubs.part = .running
      ∧ scrubs.smc.scrubQ = { page := 6, order := some 0 } :: [] ∧ scrubs.smc.scrubbing = true
      ∧ idle.smc.scrubbing = false ∧ (scrubs.order 0).state = .closing ∧ (scrubs.order 0).awaiting = 1
      ∧ (scrubs.order 1).state ≠ .closing := by
  decide

/-- GrowWindowTakesPagesFromThePool: 0 and 2049 pages, the limit, one page more than the pool has, the whole pool, with a threshold that is crossed and one that is not. -/
theorem test_hyps_grow :
    Ready opened (.mgmt .growWindow) (request .growWindow 0 [0, 3])
      ∧ opened.part = .running ∧ (opened.order 0).state = .open_ ∧ opened.smc.freePool.length = 3
      ∧ beNat [(0 : Byte), 0] = 0 ∧ 2048 < beNat [(8 : Byte), 1]
      ∧ beNat [(8 : Byte), 0] = 2048 ∧ 2048 < (opened.order 0).map.length + beNat [(8 : Byte), 0]
      ∧ opened.smc.freePool.length < beNat [(0 : Byte), 4]
      ∧ opened.smc.threshold ≤ opened.smc.freePool.length - beNat [(0 : Byte), 3]
      ∧ ({ opened.smc with threshold := 1 } : Smc).threshold ≤ 3 := by
  decide

/-- BulkRequestsAreChecked: an access that ends with the window and one that ends a byte later, 1 byte and the longest. -/
theorem test_hyps_bulk :
    Ready opened .bulkRead (frame 9 0 0 [0, 0x50, 0, 1, 0xFF, 0xF8, 0, 8])
      ∧ (frame 9 0 0 [0, 0x50, 0, 1, 0xFF, 0xF8, 0, 8]).fields = 0 :: 1 :: 0xFF :: 0xF8 :: [0, 8]
      ∧ beNat [(0 : Byte), 1, 0xFF, 0xF8] + beNat [(0 : Byte), 8] = windowSize (opened.order 0).map
      ∧ windowSize (opened.order 0).map < beNat [(0 : Byte), 1, 0xFF, 0xF9] + beNat [(0 : Byte), 8]
      ∧ Ready opened .bulkWrite (frame 9 0 0 [0, 0x51, 0, 0, 0, 4, 9])
      ∧ (frame 9 0 0 [0, 0x51, 0, 0, 0, 4, 9]).fields = 0 :: 0 :: 0 :: 4 :: [9]
      ∧ beNat [(7 : Byte), 0xFD] = 2045 ∧ (opened.order 0).live = true ∧ (opened.order 1).state = .free := by
  decide +kernel

/-- A bulk request over the boundary of two pages. -/
def bulkAt (k : BulkKind) : State :=
  { opened with
    smc := { opened.smc with
      dram := [(65536 * 2 - 2, 8), (65536 * 2, 9)],
      bulk := some { tag := 7, order := 0, offset := 65533, kind := k, result := none } } }

/-- BulkReadReturnsTheWindowBytes, BulkWriteStoresTheBytes and UncorrectedReadPoisonsThePage. -/
theorem test_hyps_bulk_access :
    let s := bulkAt (.read 4)
    s.smc.bulk = some { tag := 7, order := 0, offset := 65533, kind := .read 4, result := none }
      ∧ 65533 + 4 ≤ windowSize (s.order 0).map
      ∧ (∀ e ∈ (s.order 0).map, e.poisoned = false ∧ s.hasPage e.page = true)
      ∧ s.smc.ecc = [] ∧ s.eccOn = true ∧ ((s.order 0).map.map (fun e => e.page)).Nodup
      ∧ (s.order 0).map[65535 / 65536]? = some { page := 1, poisoned := false }
      ∧ (bulkAt (.write [1, 0, 2, 3])).smc.bulk
          = some { tag := 7, order := 0, offset := 65533, kind := .write [1, 0, 2, 3], result := none } := by
  decide

/-- What the two accesses do there: the read gives the window's bytes and the write replaces them. -/
theorem test_bulk_access :
    (match exec (.bulkAccessComplete []) (bulkAt (.read 4)) with
      | .next t => t.link.upQueue.map (fun f => f.payload)
      | _ => []) = [[0, 0x50, 0, 0, 8, 0, 9]]
    ∧ (match exec (.bulkAccessComplete []) (bulkAt (.write [1, 0, 2, 3])) with
      | .next t => t.smc.dram
      | _ => []) = [(65536 * 2 - 3, 1), (65536 * 2 - 1, 2), (65536 * 2, 3)] := by
  decide +kernel

/-! ### Orders -/

/-- An order record with an empty window in state st. -/
def plain (st : OrderState) : Order := { order0 with state := st, map := [] }

/-- OpenOrderTakesTheLowestFreeRecord: the first record, and no record. -/
theorem test_hyps_open :
    let full : State := { idle with orders := idle.orders.map (fun _ => plain .open_) }
    Ready idle (.mgmt .openOrder) (request .openOrder 0xFF [0, 0, 0, 1, 7])
      ∧ (idle.order 0).state = .free ∧ (∀ m : OrderNo, m < 0 → (idle.order m).state ≠ .free)
      ∧ Ready full (.mgmt .openOrder) (request .openOrder 0xFF [0, 0, 0, 1, 7])
      ∧ (∀ n, (full.order n).state ≠ .free) ∧ (7 : Byte).toNat < 8 := by
  decide +kernel

/-- A slot that holds a READY card bound to order 0. -/
def readySlot : SlotRec :=
  { idle.slot .b with
    base := some .ready, bound := some 0, capacity := some 1000, addressing := some .block,
    lock := some false, pin := true }

/-- An entry that passes card requests of one kind (class 0), or a class's traffic as a whole. -/
def passes (portClass kind : Nat) : RuleEntry :=
  { direction := 0, portClass := portClass, requestKind := kind, action := 0, code := 0, mask := 0,
    payClass := 0, amtOffset := 0, amtWidth := 0, amtFormat := 0, good := true }

/-- Order 0 bound to slot b, with every permit, under rules that pass card requests and engine messages. -/
def bound : State :=
  { opened with
    orders := opened.orders.set 0 { order0 with
      slot := some .b, permits := { cardWrite := true, engineService := true, paymentRefund := true } },
    slots := opened.slots.set 1 readySlot,
    rules := { opened.rules with active := { opened.rules.active with
      rules := (List.range 5).map (passes 0) ++ [passes 1 0] } } }

/-- Slot b as given. -/
def withSlot (s : State) (r : SlotRec) : State := { s with slots := s.slots.set 1 r }

/-- A request on slot b. -/
def cardReq (k : CardKind) : CardReq :=
  { kind := k, tag := 9, gen := 0, start := 100, count := 3, phase := .onBus, rawIndex := 3, rawArg := 5,
    rawLen := 1, done := 1, gathered := [], action := none, finish := none }

/-- SlotBindingChangesBothSides. -/
theorem test_hyps_bind :
    let cardIn : State := { opened with slots := opened.slots.set 2 { opened.slot .c with base := some .present } }
    let busy := withSlot bound { readySlot with request := some (cardReq .status) }
    Ready cardIn (.mgmt .bindSlot) (request .bindSlot 0 [2])
      ∧ (request .bindSlot 0 [2]).fields = b1 (slotNo .c).val ∧ orderOfByte (request .bindSlot 0 [2]).order = some 0
      ∧ (cardIn.order 0).state = .open_ ∧ (cardIn.order 0).slot = none
      ∧ (cardIn.slot .c).bound = none ∧ (cardIn.slot .c).base ≠ none ∧ (opened.slot .c).base = none
      ∧ (bound.order 0).slot.isSome
      ∧ Ready bound (.mgmt .unbindSlot) (request .unbindSlot 0 []) ∧ (bound.order 0).live = true
      ∧ (bound.order 0).slot = some .b ∧ (bound.slot .b).bound = some 0 ∧ (bound.slot .b).request = none
      ∧ Ready opened (.mgmt .unbindSlot) (request .unbindSlot 0 []) ∧ (opened.order 0).slot = none
      ∧ Ready busy (.mgmt .unbindSlot) (request .unbindSlot 0 []) ∧ (busy.slot .b).request.isSome := by
  decide

/-- An engine that streams item 0 of order 0. -/
def printing : State :=
  { idle with
    orders := idle.orders.set 0 { order0 with
      items := [item .printing, item .queued, item .pending, item .done] },
    engines := idle.engines.set 0 { idle.eng .one with
      state := .streaming, item := some { order := 0, item := 0 }, copy := some 1, credits := 2,
      bandCount := 3, queue := [{ order := 0, item := 1 }], bandRead := some 0 } }

/-- CancelOrderEndsPrinting: an OPEN order that prints, one already cancelled, a CLOSING one. -/
theorem test_hyps_cancel :
    Ready printing (.mgmt .cancelOrder) (request .cancelOrder 0 []) ∧ (printing.order 0).state = .open_
      ∧ (printing.eng .one).item = some { order := 0, item := 0 } ∧ (printing.eng .one).state = .streaming
      ∧ Ready (withOrder0 idle (plain .cancelled)) (.mgmt .cancelOrder) (request .cancelOrder 0 [])
      ∧ Ready (withOrder0 idle (plain .closing)) (.mgmt .cancelOrder) (request .cancelOrder 0 []) := by
  decide

/-- CloseOrderSettlesAndScrubs: with clean pages, without pages, UNSETTLED by an item and by the pay state, and a BUSY slot. -/
theorem test_hyps_close :
    let f := request .closeOrder 0 []
    let unpaid := withOrder0 idle { order0 with pay := { PayRec.empty with state := .authorised } }
    let busy := withSlot bound { readySlot with request := some (cardReq .status) }
    Ready opened (.mgmt .closeOrder) f ∧ (opened.order 0).live = true
      ∧ (∀ it ∈ (opened.order 0).items, it.state ≠ .queued ∧ it.state ≠ .printing)
      ∧ (opened.order 0).pay.state ∈ [.none_, .declined, .captured, .voided] ∧ (opened.order 0).slot = none
      ∧ opened.smc.bulk = none
      ∧ ((opened.order 0).map.filter (fun e => !e.poisoned)).map (fun e => e.page) ≠ []
      ∧ ((withOrder0 idle (plain .open_)).order 0).map = []
      ∧ Ready printing (.mgmt .closeOrder) f ∧ (∃ it ∈ (printing.order 0).items, it.state = .printing)
      ∧ Ready unpaid (.mgmt .closeOrder) f
      ∧ (unpaid.order 0).pay.state ∉ [.none_, .declined, .captured, .voided]
      ∧ Ready busy (.mgmt .closeOrder) f ∧ (busy.order 0).slot = some .b ∧ (busy.slot .b).request.isSome := by
  decide

/-- An order that lost its payment. -/
def unknown (c : PayClass) : State :=
  withOrder0 idle { order0 with
    state := .cancelled,
    pay := { state := .unknown, authorised := 300, captured := 200, refunded := 50, lost := some c } }

/-- ResolvePaymentFollowsItsTable: every lost class, an order that is not UNKNOWN, and a refund at its bound. -/
theorem test_hyps_resolve (c : PayClass) :
    let f := request .resolvePayment 0 (5 :: toBytes 6 150)
    Ready (unknown c) (.mgmt .resolvePayment) f ∧ f.fields = 5 :: toBytes 6 150
      ∧ ((unknown c).order 0).live = true ∧ ((unknown c).order 0).pay.state = .unknown
      ∧ ((unknown c).order 0).pay.lost = some c ∧ ((unknown c).order 0).pay.refunded + 150 ≤ 200
      ∧ Ready opened (.mgmt .resolvePayment) f ∧ (opened.order 0).pay.state ≠ .unknown := by
  cases c <;> decide


/-! ### Traffic rules, items and the scheduler -/

/-- A slot, an engine and a payment profile in range. -/
def slotProfile : SlotProfile := { divider := 5, response := 300, block := 400, depth := 7 }
def engineProfile : EngineProfile := { response := 5, page := 300 }
def payProfile : PayProfile := { PayProfile.atReset with baud := 115200, lenAdjust := -3, framing := 1 }

/-- LoadRequestsEditThePendingImage: one entry at index 0, an empty load, the last price class, each profile; with and without a barrier. -/
theorem test_hyps_load :
    let barrier : State := { idle with rules := { idle.rules with
      barrier := some { switched := [], tag := 1, order := 0xFF, newValid := true } } }
    let rules := request .loadRules 0xFF (b1 0 ++ b1 1 ++ b1 1 ++ (passes 0 1).bytes)
    Ready idle (.mgmt .loadRules) rules ∧ idle.rules.barrier = none ∧ (passes 0 1).fits = true
      ∧ rules.fields = b1 0 ++ b1 1 ++ b1 1 ++ (([passes 0 1] : List RuleEntry).map RuleEntry.bytes).flatten
      ∧ Ready idle (.mgmt .loadPrices) (request .loadPrices 0xFF (b1 15 ++ b1 1 ++ Price.bytes ⟨500, 3⟩))
      ∧ Ready idle (.mgmt .loadSlotProfile) (request .loadSlotProfile 0xFF (b1 3 ++ slotProfile.bytes))
      ∧ Ready idle (.mgmt .loadEngineProfile) (request .loadEngineProfile 0xFF (b1 2 ++ engineProfile.bytes))
      ∧ Ready idle (.mgmt .loadPaymentProfile) (request .loadPaymentProfile 0xFF payProfile.bytes)
      ∧ Ready idle (.mgmt .discardPending) (request .discardPending 0xFF [])
      ∧ barrier.rules.barrier ≠ none ∧ barrier.part = .running
      ∧ Ready barrier (.mgmt .commitTables) (request .commitTables 0xFF [])
      ∧ Ready barrier (.mgmt .discardPending) (request .discardPending 0xFF [])
      ∧ Ready barrier (.mgmt .loadSlotProfile) (request .loadSlotProfile 0xFF (b1 3 ++ slotProfile.bytes)) := by
  decide

/-- What LOAD_RULES leaves there. -/
theorem test_load_rules :
    (match exec .loadRules (holding idle (request .loadRules 0xFF (b1 0 ++ b1 1 ++ b1 1 ++ (passes 0 1).bytes))) with
      | .next t => t.rules.pendingImg.rules
      | _ => []) = [passes 0 1] := by
  decide +kernel

/-- ValidationAdmitsOnlySoundImages: the reset image is sound; a start byte equal to the end byte is not. -/
theorem test_validation :
    idle.rules.pendingImg.fault = none
      ∧ ({ idle.rules.pendingImg with pay := { PayProfile.atReset with endByte := 2 } } : Image).fault
          = some { part := 4, index := none, field := 6 } := by
  decide +kernel

/-- A state with a payment message in the transmit FIFO: one port is busy. -/
def oneBusy : State := { idle with pay := { idle.pay with tx := [{ bytes := [1], gen := 0 }] } }

/-- CommitSwitchesAtTheBarrier: an image with a fault, no busy port, one busy port, and a barrier on the way. -/
theorem test_hyps_commit :
    let f := request .commitTables 0xFF []
    let bad : State := { idle with rules := { idle.rules with pendingImg := { idle.rules.pendingImg with
      pay := { PayProfile.atReset with endByte := 2 } } } }
    let waits : State := { oneBusy with rules := { oneBusy.rules with
      barrier := some { switched := allPorts.filter (fun p => p != .payDown), tag := 1, order := 0xFF, newValid := true } } }
    Ready idle (.mgmt .commitTables) f ∧ (∀ p ∈ allPorts, idle.portBusy p = false)
      ∧ Ready oneBusy (.mgmt .commitTables) f ∧ (∃ p ∈ allPorts, oneBusy.portBusy p = true)
      ∧ Ready bad (.mgmt .commitTables) f ∧ bad.rules.pendingImg.fault.isSome
      ∧ waits.rules.barrier.isSome
      ∧ (∃ p ∈ allPorts, p ∉ allPorts.filter (fun p => p != .payDown || !waits.portBusy p)) := by
  decide +kernel

/-- FirstMatchingEntryClassifies: a match, no match, an entry with bad parity, an INVALID generation; the manual's amount bytes. -/
theorem test_hyps_classify :
    let m : Msg := cardMsg false .readLink
    let spoilt : State := { bound with rules := { bound.rules with active := { bound.rules.active with
      rules := [{ passes 0 0 with good := false }] } } }
    let e : RuleEntry := { passes 2 0 with amtOffset := 6, amtWidth := 3, amtFormat := 2 }
    (bound.imageOf 0).rules[1]? = some (passes 0 1) ∧ (passes 0 1).fitsMsg m = true
      ∧ (∀ j, j < 1 → ∀ g, (bound.imageOf 0).rules[j]? = some g → g.good = true ∧ g.fitsMsg m = false)
      ∧ bound.genValid 0 = true ∧ (∀ g ∈ (idle.imageOf 0).rules, g.good = true ∧ g.fitsMsg m = false)
      ∧ ((spoilt.imageOf 0).rules[0]?.map (fun g => g.good)) = some false
      ∧ ({ idle with rules := { idle.rules with valid := false } } : State).genValid 0 = false
      ∧ e.amount [0, 0, 0, 0, 0, 0, 0x01, 0x25, 0x90] = .value 12590
      ∧ e.amount [0, 0, 0, 0, 0, 0, 0x01, 0x25] = .unreadable
      ∧ e.amount [0, 0, 0, 0, 0, 0, 0x01, 0x25, 0x9A] = .unreadable := by
  refine ⟨by decide, by decide, ?_, by decide, by decide, by decide, by decide, by decide, by decide,
    by decide⟩
  intro j hj
  obtain rfl : j = 0 := by omega
  exact of_some (show (bound.imageOf 0).rules[0]? = some (passes 0 0) by decide) (by decide)

/-- The item that SUBMIT_ITEM is given: its last byte is the window's last. -/
def submit (offset : Nat) : Bytes :=
  [0, 1, 2] ++ toBytes 4 offset ++ toBytes 2 4 ++ toBytes 2 10 ++ toBytes 2 20 ++ [8]

/-- ItemRequestsActOnThePrintList: an item that ends with the window and one a byte later; 31 and 32 items; each item state. -/
theorem test_hyps_items :
    let q : SubmitFields := { choice := .either, cls := 1, copies := 2, offset := 130468, skip := 4, width := 10, rows := 20, bandRows := 8 }
    let held := withOrder0 idle { order0 with items := [item .held, item .done] }
    let queued : State := { withOrder0 idle { order0 with items := [item .queued] } with
      engines := idle.engines.set 1 { idle.eng .two with queue := [{ order := 0, item := 0 }] } }
    Ready opened (.mgmt .submitItem) (request .submitItem 0 (submit 130468))
      ∧ submitFields (request .submitItem 0 (submit 130468)).fields = some q
      ∧ 130468 + 4 + 10 * 3 * 20 = (opened.order 0).map.length * 65536
      ∧ (submitFields (submit 130469)).isSome
      ∧ ((withOrder0 idle { order0 with items := List.replicate 32 (item .done) }).order 0).items.length = 32
      ∧ (plain .cancelled).state ≠ .open_ ∧ (plain .cancelled).live = true
      ∧ Ready held (.mgmt .resumeItem) (request .resumeItem 0 [0])
      ∧ (held.order 0).items[0]? = some (item .held) ∧ (held.order 0).items[1]? = some (item .done)
      ∧ Ready queued (.mgmt .withdrawItem) (request .withdrawItem 0 [0])
      ∧ (queued.order 0).items[0]? = some (item .queued) := by
  decide +kernel

/-- Both engines IDLE with media 1, and an order that has just the credit its item needs, or one less. -/
def searchable (credit : Nat) : State :=
  { withOrder0 idle { order0 with
      items := [item .pending], pay := { PayRec.empty with state := .authorised, authorised := credit } } with
    engines := idle.engines.map (fun g => { g with state := .idle, media := some 1 }) }

/-- SearchQueuesTheFirstPassingCandidate: a candidate that passes, one that is newly short, and no candidate. -/
theorem test_hyps_search :
    let s := searchable 200
    let t := searchable 199
    s.part = .running ∧ s.resetLow = false
      ∧ ordersAfter s.lastServed = [] ++ 0 :: [1, 2, 3, 4, 5, 6, 7, 8, 9, 10, 11, 12, 13, 14, 15]
      ∧ (s.order 0).candidate = some 0 ∧ (s.order 0).items[0]? = some (item .pending)
      ∧ s.test 0 (item .pending) = .pass .one
      ∧ (t.order 0).candidate = some 0 ∧ (t.order 0).items[0]? = some (item .pending)
      ∧ t.test 0 (item .pending) = .short ∧ (t.order 0).shortArmed = true
      ∧ (∀ m : OrderNo, m ≠ 0 → (t.order m).candidate = none) ∧ (inPart .halted).part = .halted := by
  decide +kernel

/-! ### Cards -/

/-- Slot b with a debounce on its input. -/
def debouncing (base : Option Base) (pin : Bool) (d : Debounce) : State :=
  withSlot bound { readySlot with base := base, pin := pin, debounce := d }

/-- The chain of a READ to staging: 512 bytes on the first page and 1024 on the second. -/
def chain : List ChainEntry :=
  [{ offset := 0, length := 512, last := false }, { offset := 65536, length := 1024, last := true }]

/-- A staged read with one block received. -/
def context : Ctx :=
  { order := 0, tag := 9, gen := 0, start := 100, count := 3, chain := chain, position := 512,
    buffer := [List.replicate 512 7], placed := 0, moved := [], received := 1, delivered := 0, discarded := 0,
    written := 0, cause := none, toError := false, action := none, waits := false }

/-- A grant of slot b. -/
def grantAt (st : BusStage) : Grant :=
  { slot := .b, prefetch := false, divider := 10, response := 100, block := 200, stage := st, next := 101,
    retried := false, timer := some 3, readySince := none, stop := none }

/-- A request of slot b on the bus. -/
def onBus (q : CardReq) (g : Grant) : State :=
  { withSlot bound { readySlot with request := some q } with bus := { grant := some g, lastGranted := .b } }

/-- A staged read of slot b with its context. -/
def staged (c : Ctx) (g : Option Grant) : State :=
  { withSlot bound { readySlot with request := some (cardReq .readStaged) } with
    bus := { grant := g, lastGranted := .b }, ctxs := idle.ctxs.set 1 (some c) }

/-- The answer of a card request goes on, and the queue takes what is sent, in a state like these. -/
abbrev Answers (s : State) (q : CardReq) (k : Nat) : Prop :=
  s.part ≠ .halted ∧ q.action = none
    ∧ s.classify q.gen (cardMsg true q.kind) = (s, .found .pass none 0 .absent)
    ∧ s.link.state = .up ∧ s.link.upQueue.length + s.reserved + k ≤ 16 ∧ s.link.waiting = []

theorem goes_of {s : State} {q : CardReq} {k : Nat} (h : Answers s q k) : s.AnswerGoes q ∧ s.Accepts k :=
  ⟨⟨h.1, .inr ⟨h.2.1, _, h.2.2.1, rfl⟩⟩, h.2.2.2⟩

/-- CloseOrderSettlesAndScrubs: a context of the order that drains with nothing of its oldest block written and with a piece written, one of another order, and a band read that was left to end. -/
theorem test_hyps_close_parts :
    let s := fun c : Ctx => ({ opened with
      ctxs := opened.ctxs.set 1 (some c),
      engines := opened.engines.set 0 { opened.eng .one with
        stale := some { order := 0, offset := 0, length := 8, lost := false } } } : State)
    Ready (s context) (.mgmt .closeOrder) (request .closeOrder 0 [])
      ∧ Ready (s { context with placed := 1 }) (.mgmt .closeOrder) (request .closeOrder 0 [])
      ∧ (s context).ctx .b = some context ∧ context.order = 0 ∧ context.placed = 0
      ∧ ({ context with placed := 1 } : Ctx).placed ≠ 0 ∧ context.buffer = List.replicate 512 7 :: []
      ∧ (s { context with order := 1 }).ctx .b = some { context with order := 1 }
      ∧ (s context).ctx .a = none ∧ ((s context).order 0).state = .open_ := by
  decide +kernel

/-- LinkLossEmptiesTheUpstreamSide: a READ to the link that waits, that reads a block and that awaits a response, a WRITE that collects, another request, a request that has ended, and frames that wait. -/
theorem test_hyps_link_loss :
    let q := cardReq .readLink
    let at_ := fun q' : CardReq => withSlot bound { readySlot with request := some q' }
    let ended : CardReq := { q with finish := some .toError }
    let reads := onBus q (grantAt .reading)
    let asks := onBus q (grantAt (.awaiting (.read 100)))
    let held : State := { at_ ended with link := { idle.link with
      waiting := [{ owner := .cardDone .b, frame := upFrame }] } }
    reads.link.state ≠ .down ∧ asks.link.state ≠ .down ∧ held.link.state ≠ .down
      ∧ (∀ x ∈ allSlots, reads.ctx x = none ∧ asks.ctx x = none ∧ held.ctx x = none)
      ∧ ((at_ { q with phase := .waiting }).slot .b).request = some { q with phase := .waiting }
      ∧ ({ q with phase := .waiting } : CardReq).phase ≠ .onBus ∧ q.finish = none ∧ q.kind = .readLink
      ∧ (reads.slot .b).request = some q ∧ q.phase = .onBus ∧ reads.bus.grant = some (grantAt .reading)
      ∧ (grantAt .reading).prefetch = false ∧ (grantAt .reading).slot = .b
      ∧ asks.bus.grant = some (grantAt (.awaiting (.read 100)))
      ∧ (grantAt (.awaiting (.read 100))).stage ≠ .reading
      ∧ ((at_ { cardReq .write with phase := .collecting }).slot .b).request
          = some { cardReq .write with phase := .collecting }
      ∧ (cardReq .status).kind ≠ .readLink ∧ (held.slot .b).request = some ended ∧ ended.finish ≠ none
      ∧ (reads.slot .a).request = none ∧ bound.bus.grant = none := by
  decide +kernel

/-- EntryToHaltedStopsDeviceTraffic: no request, one that waits and one that has ended, a block on the bus, a command of a STATUS and of a READ, a staged read, a prefetch that reads and one that asks, and frames that wait. -/
theorem test_hyps_halt :
    let q := cardReq .readLink
    let ended : CardReq := { q with finish := some .kept }
    let held : State := { withSlot bound { readySlot with request := some ended } with
      link := { idle.link with waiting := [{ owner := .cardDone .b, frame := upFrame }] } }
    let done : State := { staged context none with
      link := { idle.link with waiting := [{ owner := .stagedDone .b, frame := upFrame }] } }
    let fetch := fun st : BusStage => ({ bound with
      bus := { grant := some { grantAt st with prefetch := true }, lastGranted := .a } } : State)
    bound.part ≠ .halted ∧ (∀ w ∈ bound.link.waiting, w.owner = .commit) ∧ bound.bus.grant = none
      ∧ (onBus q (grantAt .reading)).bus.grant = some (grantAt .reading)
      ∧ (grantAt .reading).stage ∈ [BusStage.reading, .writing, .busyHold]
      ∧ (grantAt (.sending .status)).stage = .sending .status
      ∧ (cardReq .status).kind ∈ [CardKind.identify, .status, .raw]
      ∧ (grantAt (.sending (.read 100))).stage ∉ [BusStage.reading, .writing, .busyHold]
      ∧ q.kind ∉ [CardKind.identify, .status, .raw] ∧ (onBus q (grantAt .heldUp)).ctx .b = none
      ∧ (staged context (some (grantAt .heldBuf))).ctx .b = some context
      ∧ (fetch .reading).bus.grant = some { grantAt .reading with prefetch := true }
      ∧ ({ grantAt (.awaiting (.read 100)) with prefetch := true } : Grant).stage ≠ .reading
      ∧ (held.slot .b).request = some ended ∧ ended.finish ≠ none
      ∧ { owner := .cardDone .b, frame := upFrame } ∈ held.link.waiting
      ∧ done.ctx .b ≠ none ∧ { owner := .stagedDone .b, frame := upFrame } ∈ done.link.waiting := by
  decide +kernel

/-- CardDetectionFollowsTheDebounce: each start, each abandonment, an insertion, an insertion while the port is busy, one that waits for a stopped read, and the removals: of an idle card, of one that a staged read uses, stopped or not, and of a BUSY one. -/
theorem test_hyps_detect :
    let q := cardReq .readLink
    let s1 := withSlot (onBus q (grantAt .reading)) { readySlot with request := some q, pin := false, debounce := .running 3 }
    let s2 := withSlot (staged context none) { readySlot with pin := false, debounce := .running 3 }
    let s3 := withSlot (staged context none) { readySlot with base := none, pin := true, debounce := .running 3 }
    let c4 : Ctx := { context with buffer := [], cause := some .stopped }
    let s4 := withSlot (staged c4 none) { readySlot with base := none, pin := true, debounce := .ended }
    ((debouncing none false .idle).slot .b).base = none ∧ ((debouncing none false .idle).slot .b).pin ≠ true
      ∧ ((debouncing (some .ready) true .idle).slot .b).base ≠ none
      ∧ ((debouncing none true (.running 5)).slot .b).debounce = .running 5
      ∧ (debouncing none true (.running 5)).portBusy (.slotPort .b) = false
      ∧ s3.portBusy (.slotPort .b) = true ∧ (s3.slot .b).base = none
      ∧ (s4.slot .b).base = none ∧ (s4.slot .b).pin = true ∧ (s4.slot .b).debounce = .ended
      ∧ (s4.slot .b).request = none ∧ s4.ctx .b = some c4 ∧ c4.moved = [] ∧ c4.waits = false
      ∧ s4.rules.barrier = none ∧ s4.link.waiting = []
      ∧ ((debouncing (some .ready) false (.running 5)).slot .b).request = none
      ∧ (debouncing (some .ready) false (.running 5)).ctx .b = none
      ∧ s2.ctx .b = some context ∧ s2.bus.grant = none ∧ context.waits = false ∧ context.cause ≠ some .stopped
      ∧ ({ context with cause := some .stopped } : Ctx).cause = some .stopped
      ∧ s1.ctx .b = none ∧ (s1.slot .b).request = some q ∧ q.finish = none ∧ s1.bus.grant = some (grantAt .reading)
      ∧ (grantAt .reading).stop = none ∧ s1.rules.barrier = none ∧ Answers s1 q 1
      ∧ (q.lastFrames .mediaRemoved q.progress).length = 1 := by
  decide +kernel

/-- The state after commands. -/
def slotAfter (s : State) : List Instr → State
  | [] => s
  | i :: is => match exec i s with
    | .next t => slotAfter t is
    | _ => s

/-- A card comes while the old card's read drains: it waits, and the end of the read takes it; a card that leaves before is not taken. -/
theorem test_insertion_waits :
    let c : Ctx := { context with buffer := [], cause := some .mediaRemoved }
    let s := withSlot (staged c none) { readySlot with base := none, bound := none, pin := true, debounce := .running 3 }
    let s1 := slotAfter s [.cardInsertion .b true]
    let s2 := slotAfter s [.cardInsertion .b true, .stagedReadComplete .b []]
    let s3 := slotAfter s [.cardInsertion .b true, .cardDetectChange .b false, .stagedReadComplete .b []]
    (s1.slot .b).base = none ∧ (s1.slot .b).debounce = .ended ∧ s1.link.notices = s.link.notices
      ∧ (s2.slot .b).base = some .present ∧ (s2.slot .b).debounce = .idle ∧ s2.ctx .b = none
      ∧ s2.link.notices.length = s.link.notices.length + 1 ∧ s2.free = s.free + 1
      ∧ s2.link.upQueue.length = s.link.upQueue.length + 1
      ∧ (s3.slot .b).base = none ∧ s3.ctx .b = none ∧ s3.link.notices = s.link.notices := by
  decide +kernel

/-- A READ to the link, a READ to staging and a WRITE of slot b. -/
def readFrame : DownFrame := frame 3 2 0 (b1 1 ++ toBytes 4 100 ++ toBytes 2 2)
def stagedFrame : DownFrame :=
  frame 3 2 0 (b1 2 ++ toBytes 4 100 ++ toBytes 2 3 ++ b1 2
    ++ [0, 0, 0, 0, 0, 0, 2, 0, 0, 1, 0, 0, 1, 0, 4, 0])
def writeFrame : DownFrame := frame 3 2 0 (b1 3 ++ toBytes 4 100 ++ toBytes 2 2)
def range100 (n : Nat) : CardFields := { CardFields.none_ with start := 100, count := n }

/-- A chain entry is sound, as check 10 asks. -/
def lastBlock : DownFrame := frame 3 2 0 (b1 1 ++ toBytes 4 999 ++ toBytes 2 2)

/-- CardRequestsAreCheckedInSequence: each part state, a WRITE that collects, each kind's frame, no rule, each base state, no order, no permit, an order that is not OPEN, a read past the card's last block. -/
theorem test_hyps_card_checks :
    let collects := withSlot bound { readySlot with request := some { cardReq .write with phase := .collecting } }
    let v := fun (s : State) (k : CardKind) => (s.classify (s.portGen (.slotPort .b)) (cardMsg false k)).2
    (∀ p ∈ [PartState.unconfigured, .training, .running, .halted],
        Ready { bound with part := p } (.card .b .readLink) readFrame)
      ∧ Ready collects (.card .b .readLink) readFrame ∧ collects.collecting .b = true
      ∧ cardFields .readLink [1] = none ∧ cardFields .readLink readFrame.payload.tail = some (range100 2)
      ∧ v opened .readLink = .found .refuse none 0 .absent
      ∧ v bound .readLink = .found .pass (some 1) 0 .absent
      ∧ Ready bound (.card .b .readStaged) stagedFrame
      ∧ cardFields .readStaged stagedFrame.payload.tail = some { range100 3 with chain := chain }
      ∧ (debouncing none false .idle).collecting .b = false
      ∧ ((withSlot bound { readySlot with base := some .error }).slot .b).base = some .error
      ∧ ((withSlot bound { readySlot with bound := none }).slot .b).bound = none
      ∧ (opened.order 0).permits.cardWrite = false ∧ (bound.order 0).permits.cardWrite = true
      ∧ ((withOrder0 bound (plain .cancelled)).order 0).state ≠ .open_
      ∧ cardFields .readLink lastBlock.payload.tail = some { CardFields.none_ with start := 999, count := 2 }
      ∧ ((bound.slot .b).capacity.getD 0) < 999 + 2 := by
  decide +kernel

/-- AdmittedCardRequestsReachTheBus: a READ to the link on a free bus, a WRITE, and a READ to staging that takes a prefetched block first. -/
theorem test_hyps_admit :
    let pre := withSlot bound { readySlot with buf := some { start := 100, blocks := [[1], [2]] } }
    let taken : State := { bound with bus := { grant := some { grantAt .reading with slot := .c }, lastGranted := .c } }
    Ready bound (.card .b .readLink) readFrame ∧ Ready bound (.card .b .write) writeFrame
      ∧ Ready pre (.card .b .readStaged) stagedFrame ∧ Ready taken (.card .b .readLink) readFrame
      ∧ (bound.flipBits []).classify (bound.portGen (.slotPort .b)) (cardMsg false .readLink)
          = (bound, .found .pass (some 1) 0 .absent)
      ∧ (bound.flipBits []).classify (bound.portGen (.slotPort .b)) (cardMsg false .write)
          = (bound, .found .pass (some 2) 0 .absent)
      ∧ (pre.flipBits []).classify (pre.portGen (.slotPort .b)) (cardMsg false .readStaged)
          = (pre, .found .pass (some 1) 0 .absent)
      ∧ (bound.slot .b).request = none ∧ (bound.slot .b).base = some .ready
      ∧ (bound.slot .b).capacity = some 1000 ∧ (bound.slot .b).buf = none ∧ (bound.slot .b).prefetch = none
      ∧ bound.bus.grant = none ∧ taken.bus.grant = some { grantAt .reading with slot := .c }
      ∧ (∀ y ∈ [Slot.a, .b, .c, .d], bound.isWaiting y = false)
      ∧ (pre.slot .b).buf = some { start := 100, blocks := [[1], [2]] }
      ∧ 3 * 512 ≤ (chain.map (fun e => e.length)).sum ∧ min 2 3 ≤ 4 := by
  decide +kernel

/-- The checks of those requests are passed. -/
theorem test_hyps_checks_pass :
    bound.CardChecksPass .b .readLink .pass false (range100 2)
      ∧ bound.CardChecksPass .b .write .pass false (range100 2)
      ∧ bound.CardChecksPass .b .readStaged .pass false { range100 3 with chain := chain } := by
  have h0 : (bound.slot .b).request = none := by decide
  have h1 : (bound.slot .b).base = some .ready := by decide
  have h2 : (bound.slot .b).capacity = some 1000 := by decide
  have h3 : (bound.slot .b).bound = some 0 := by decide
  have h4 : (bound.order 0).permits.cardWrite = true := by decide
  refine ⟨⟨h0, ?_, ?_, ?_, ?_, ?_, ?_, ?_⟩, ⟨h0, ?_, ?_, ?_, ?_, ?_, ?_, ?_⟩, ⟨h0, ?_, ?_, ?_, ?_, ?_, ?_, ?_⟩⟩
  all_goals first
    | exact fun _ => ⟨h1, 1000, h2, by decide⟩
    | exact fun _ => ⟨0, h3, h4⟩
    | exact fun _ => ⟨0, h3, by decide, by decide⟩
    | (intros; simp_all)

/-- WritesCollectAndAreCounted: the first and the last block on a free and on a granted bus, another tag, a short block; an accepted block, the last one, a rejected one and its second try. -/
theorem test_hyps_write :
    let data : DownFrame := frame 3 5 0 (List.replicate 512 7)
    let q : CardReq := { cardReq .write with phase := .collecting, tag := 7, count := 2 }
    let collects := fun (b : List Bytes) => withSlot bound { readySlot with request := some q, staging := some b }
    let w := cardReq .write
    let s := onBus w (grantAt .writing)
    let last : CardReq := { w with done := 2 }
    Ready (collects []) (.writeData .b) data ∧ ((collects []).slot .b).staging = some []
      ∧ ((collects []).slot .b).request = some q ∧ data.tag = q.tag ∧ data.payload.length = 512
      ∧ ([] ++ [data.payload]).length ≠ q.count ∧ ([data.payload] ++ [data.payload]).length = q.count
      ∧ Ready (collects [data.payload]) (.writeData .b) data ∧ (collects []).bus.grant = none
      ∧ q.finish = none ∧ q.phase = .collecting ∧ (collects []).part = .running
      ∧ (∀ y ∈ allSlots, (collects []).isWaiting y = false)
      ∧ Ready (collects []) (.writeData .b) { data with tag := 6 }
      ∧ Ready (collects []) (.writeData .b) (frame 3 5 0 [1])
      ∧ s.bus.grant = some (grantAt .writing) ∧ s.ctx .b = none ∧ (s.slot .b).request = some w
      ∧ w.kind = .write ∧ w.finish = none ∧ w.gathered = [] ∧ Answers s w 1
      ∧ w.done + 1 ≠ w.count ∧ last.done + 1 = last.count ∧ Answers (onBus last (grantAt .busyHold)) last 1 := by
  decide +kernel

/-- WritesCollectAndAreCounted: frames that find no request, and one that has ended. -/
theorem test_hyps_write_ended :
    let data : DownFrame := frame 3 5 0 (List.replicate 512 7)
    let q : CardReq := { cardReq .write with phase := .collecting, tag := 7, count := 2, finish := some .kept }
    let ended := withSlot bound { readySlot with request := some q, staging := some [] }
    let gone := withSlot bound { readySlot with staging := some [] }
    Ready ended (.writeData .b) data ∧ (ended.slot .b).staging = some []
      ∧ (ended.slot .b).request = some q ∧ q.finish ≠ none
      ∧ Ready gone (.writeData .b) data ∧ (gone.slot .b).request = none := by
  decide +kernel

/-- BusCommandsAreAnswered: a WAITING request, a READ to staging without and with its prefetch buffer, a PENDING prefetch, each command sent and answered. -/
theorem test_hyps_bus :
    let waits := withSlot bound { readySlot with request := some { cardReq .status with phase := .waiting } }
    let prefetch := withSlot bound { readySlot with
      prefetch := some { running := false, start := 103, target := 4, profile := slotProfile } }
    let q : CardReq := { cardReq .readStaged with phase := .waiting }
    let c : Ctx := { context with buffer := [], position := 0, received := 0 }
    let s := fun b : Option PrefetchBuf => ({ withSlot bound { readySlot with request := some q, buf := b } with
      ctxs := idle.ctxs.set 1 (some c) } : State)
    let b : PrefetchBuf := { start := 100, blocks := [List.replicate 512 1, List.replicate 512 2] }
    (waits.bus.grant = none ∧ waits.part ≠ .halted
        ∧ slotsAfter waits.bus.lastGranted = [.a] ++ .b :: [.c, .d] ∧ waits.isWaiting .a = false
        ∧ waits.isWaiting .b = true)
      ∧ ((s none).bus.grant = none ∧ ((s none).slot .b).request = some q ∧ q.phase = .waiting ∧ q.finish = none
        ∧ ((s none).slot .b).buf = none ∧ (s none).isWaiting .a = false
        ∧ ((s (some b)).slot .b).buf = some b ∧ (s (some b)).ctx .b = some c ∧ b.start = c.start
        ∧ c.position = 0 ∧ c.received = 0 ∧ c.buffer = [] ∧ c.moved = []
        ∧ c.count * 512 ≤ (c.chain.map (fun e => e.length)).sum ∧ min b.blocks.length c.count ≤ 4)
      ∧ ((∀ y ∈ [Slot.a, .b, .c, .d], prefetch.isWaiting y = false) ∧ prefetch.isPendingPrefetch .a = false
        ∧ prefetch.isPendingPrefetch .b = true)
      ∧ ∀ c ∈ [(CardKind.identify, CardCmd.idReset), (.identify, .idReady), (.identify, .idRecord),
            (.status, .status), (.raw, .raw 3 5), (.readLink, .read 100), (.write, .write 100)],
          let s := onBus (cardReq c.1) (grantAt (.awaiting c.2))
          s.bus.grant = some (grantAt (.awaiting c.2)) ∧ s.ctx .b = none
            ∧ (s.slot .b).request = some (cardReq c.1) ∧ Answers s (cardReq c.1) 1
            ∧ (onBus (cardReq c.1) (grantAt (.sending c.2))).bus.grant = some (grantAt (.sending c.2)) := by
  decide +kernel

/-- A grant of slot b that is to stop. -/
def stopAt (st : BusStage) : Grant := { grantAt st with stop := some .halt }

/-- BlocksReachTheirPlaces: requests that are to stop, in each stage and at each command. -/
theorem test_hyps_stop :
    (∀ c ∈ [(CardKind.readLink, BusStage.reading), (.write, .writing), (.write, .busyHold),
          (.identify, .awaiting .idReset), (.identify, .awaiting .idReady), (.identify, .awaiting .idRecord),
          (.status, .awaiting .status), (.raw, .awaiting (.raw 3 5)), (.raw, .sending (.raw 3 5))],
        let s := onBus (cardReq c.1) (stopAt c.2)
        s.bus.grant = some (stopAt c.2) ∧ (stopAt c.2).slot = .b ∧ (stopAt c.2).stop ≠ none
          ∧ (stopAt c.2).prefetch = false ∧ (s.slot .b).request = some (cardReq c.1) ∧ s.ctx .b = none)
      ∧ ({ cardReq .raw with rawLen := 0 } : CardReq).rawLen = 0
      ∧ ({ stopAt (.awaiting .idReady) with readySince := some 0 } : Grant).readySince ≠ none
      ∧ (staged context (some (stopAt .reading))).ctx .b = some context
      ∧ (staged context (some (stopAt .reading))).bus.grant = some (stopAt .reading)
      ∧ ((staged context (some (stopAt .reading))).slot .b).request = some (cardReq .readStaged) := by
  decide +kernel

/-- A prefetch of slot b that reads, with the slot's record. -/
def prefetching (r : SlotRec) (stop : Option StopWhy) : State :=
  { withSlot bound r with
    bus := { grant := some { grantAt .reading with prefetch := true, stop := stop }, lastGranted := .a } }

/-- BlocksReachTheirPlaces: prefetches with and without a stop, kept and discarded, of a slot that is free, BUSY and in ERROR. -/
theorem test_hyps_prefetch_ends :
    let p : Prefetch := { running := true, start := 101, target := 2, profile := slotProfile }
    let s := prefetching { readySlot with prefetch := some p } (some .yield)
    (s.slot .b).prefetch = some p
      ∧ s.bus.grant = some { grantAt .reading with prefetch := true, stop := some .yield }
      ∧ ((prefetching readySlot (some .discard)).slot .b).prefetch = none
      ∧ (s.slot .b).request = none ∧ s.part ≠ .halted ∧ (s.slot .b).base ≠ some .error
      ∧ ((prefetching { readySlot with base := some .error } none).slot .b).base = some .error
      ∧ ((prefetching { readySlot with request := some (cardReq .status) } none).slot .b).request ≠ none
      ∧ (grantAt .reading).retried = false := by
  decide +kernel

/-- A READ to the link that is to stop ends with its block, without a frame; a prefetch that times out takes its slot to ERROR. -/
theorem test_stop_ends :
    let q := cardReq .readLink
    let after := fun (i : Instr) (s : State) => match exec i s with
      | .next t => ((t.slot .b).state, t.bus.grant, t.link.upQueue.length, t.link.notices.length)
      | _ => (.empty, none, 99, 99)
    after (.cardBlockReceived (List.replicate 512 7) true []) (onBus q (stopAt .reading)) = (.ready, none, 0, 0)
      ∧ after (.cardBlockTimeout []) (onBus q (stopAt .reading)) = (.ready, none, 0, 0)
      ∧ after (.cardBlockTimeout []) (prefetching readySlot none) = (.error, none, 0, 1) := by
  decide +kernel

/-- A WAITING request that a removal ended, its completion waiting for room, is not granted the bus. -/
theorem test_ended_request_waits :
    let q : CardReq := { cardReq .status with phase := .waiting }
    let granted := fun q' : CardReq => match exec .busGrant (withSlot bound { readySlot with request := some q' }) with
      | .next t => t.bus.grant.isSome
      | _ => false
    granted q = true ∧ granted { q with finish := some .kept } = false := by
  decide +kernel

/-- The last block of the largest card that is addressed by byte, and one block more. -/
theorem test_hyps_identity :
    (List.replicate 16 (3 : Byte)).length = 16 ∧ (8388608 : Word32).toNat ≤ 8388608
      ∧ 8388608 < (8388609 : Word32).toNat ∧ (8388609 : Word32) ≠ 0 := by
  decide

/-- BlocksReachTheirPlaces: the blocks of a READ to the link, of a staged read and of a prefetch. -/
theorem test_hyps_blocks :
    let q : CardReq := { cardReq .readLink with done := 7, count := 8, gathered := [[1], [2], [3]] }
    let s := onBus q (grantAt .reading)
    let t := staged context (some (grantAt .reading))
    let p : Prefetch := { running := true, start := 101, target := 2, profile := slotProfile }
    let b : PrefetchBuf := { start := 101, blocks := [[5]] }
    let u : State := { withSlot bound { readySlot with prefetch := some p, buf := some b } with
      bus := { grant := some { grantAt .reading with prefetch := true }, lastGranted := .a } }
    (List.replicate 512 (7 : Byte)).length = 512
      ∧ s.bus.grant = some (grantAt .reading) ∧ (s.slot .b).request = some q ∧ s.ctx .b = none
      ∧ q.done + 1 = q.count ∧ Answers s q 2
      ∧ Answers s q (q.lastFrames .cardDataError q.progress).length
      ∧ t.ctx .b = some context ∧ t.bus.grant = some (grantAt .reading)
      ∧ context.received + 1 ≠ context.count
      ∧ u.bus.grant = some { grantAt .reading with prefetch := true } ∧ (u.slot .b).prefetch = some p
      ∧ (u.slot .b).buf = some b ∧ p.target ≤ b.blocks.length + 1 ∧ b.blocks.length + 1 < p.target + 1 := by
  decide +kernel

/-- BlocksReachTheirPlaces: the write buffer drains, whole and in part, without and with a bulk read of the order that meets a piece, and a staged read ends by its data and by a timeout. -/
theorem test_hyps_drain :
    let s := staged context (some (grantAt .heldBuf))
    let c : Ctx := { context with buffer := [], received := 3, delivered := 3, written := 1536, cause := some .done }
    let f : Ctx := { c with cause := some .cardTimeout, toError := true }
    let e := staged c none
    let g := staged f none
    let b : BulkReq := { tag := 3, order := 0, offset := 510, kind := .read 4, result := none }
    s.ctx .b = some context ∧ context.buffer = List.replicate 512 7 :: [] ∧ context.moved = []
      ∧ s.smc.ecc = [] ∧ (grantAt .heldBuf).stage ≠ .moving
      ∧ (∀ x ∈ context.chain, x.offset + x.length ≤ windowSize (s.order 0).map)
      ∧ context.chain.Pairwise (fun d x => d.offset + d.length ≤ x.offset ∨ x.offset + x.length ≤ d.offset)
      ∧ (∀ m ∈ (s.order 0).map, s.hasPage m.page = true ∧ m.poisoned = false)
      ∧ ((s.order 0).map.map (fun m => m.page)).Nodup ∧ s.smc.bulk = none
      ∧ (pieces chain 0 (List.replicate 512 7)).map (fun p => (p.1, p.2.length)) = [(0, 512)]
      ∧ (pieces chain 256 (List.replicate 512 7)).map (fun p => (p.1, p.2.length)) = [(256, 256), (65536, 256)]
      ∧ 1 ≤ context.placed + 1 ∧ context.placed + 0 < 1
      ∧ b.kind = .read 4 ∧ b.order = context.order ∧ b.result = none
      ∧ b.offset + 4 ≤ windowSize (s.order 0).map ∧ b.offset < 0 + 512 ∧ 0 < b.offset + 4
      ∧ e.ctx .b = some c ∧ c.status = some .done ∧ f.status = some .cardTimeout ∧ e.rules.barrier = none
      ∧ e.classify c.gen (cardMsg true .readStaged) = (e, .found .pass none 0 .absent)
      ∧ g.classify f.gen (cardMsg true .readStaged) = (g, .found .pass none 0 .absent)
      ∧ e.link.state = .up ∧ e.link.upQueue.length + e.reserved + 1 ≤ 16 ∧ e.link.waiting = []
      ∧ (e.slot .b).base ≠ none ∧ (e.slot .b).bound = some 0 ∧ (e.order 0).state = .open_
      ∧ (e.slot .b).capacity = some 1000 ∧ c.start + c.count < 1000
      ∧ g.bus.grant = none ∧ (g.slot .b).base ≠ some .error := by
  decide +kernel

/-- BlocksReachTheirPlaces: a staged read that a removal ended, with an insertion that waits for it. -/
theorem test_hyps_insertion_waits :
    let m : Ctx := { context with buffer := [], cause := some .mediaRemoved }
    let w := withSlot (staged m none) { readySlot with base := none, pin := true, debounce := .ended }
    w.ctx .b = some m ∧ m.cause ≠ some .done ∧ m.toError = false ∧ m.status = some .mediaRemoved
      ∧ m.buffer = [] ∧ m.moved = [] ∧ m.waits = false ∧ m.action = none ∧ w.part ≠ .halted ∧ w.rules.barrier = none
      ∧ (w.slot .b).base = none ∧ (w.slot .b).pin = true ∧ (w.slot .b).debounce = .ended
      ∧ w.classify m.gen (cardMsg true .readStaged) = (w, .found .pass none 0 .absent)
      ∧ w.link.state = .up ∧ w.link.upQueue.length + w.reserved + 1 ≤ 16 ∧ w.link.waiting = [] := by
  decide +kernel

/-- A staged read whose oldest block crosses from one entry to the next, and a bulk request. -/
def crossing (b : Option BulkReq) : State :=
  let s := staged { context with
    chain := [{ offset := 0, length := 256, last := false }, { offset := 65536, length := 1024, last := true }] }
    (some (grantAt .heldBuf))
  { s with smc := { s.smc with bulk := b } }

/-- What k pieces leave: a byte at the end of each entry's part, the counts of the context, the bulk result. -/
def drains (k : Nat) (b : Option BulkReq) : List Byte × List Nat × Option (Status × Bytes) :=
  match exec (.writeBufferDrain ⟨.b, k⟩) (crossing b) with
  | .next t => ([t.smc.dram.read 65791, t.smc.dram.read 131327],
      ((t.ctx .b).map (fun c => [c.placed, c.delivered, c.written])).getD [],
      t.smc.bulk.bind (fun b => b.result))
  | _ => ([], [], none)

/-- Its two pieces are written with other commands between them; a bulk read taken before the second piece reads the bytes as they were. -/
theorem test_drain :
    drains 1 none = ([7, 0], [1, 0, 0], none) ∧ drains 9 none = ([7, 7], [0, 1, 512], none)
      ∧ drains 9 (some { tag := 3, order := 0, offset := 65536, kind := .read 2, result := none })
          = ([7, 7], [0, 1, 512], some (.ok, [0, 0])) := by
  decide +kernel

/-! ### Engines -/

/-- Engine 1 as given. -/
def withEngine (s : State) (g : Engine) : State := { s with engines := s.engines.set 0 g }

/-- The page-open message of a test page. -/
def openMsg : EngineMsg := .pageOpen 0 0 1 1 1 5 2

/-- EngineLineSendsInOrder: a message that waits, and each message sent in the state it belongs to and in another, and before another message of its kind. -/
theorem test_hyps_line :
    let g := fun (st : EngineState) (m : EngineMsg) (w : List EngineMsg) =>
      ((withEngine idle { idle.eng .one with state := st, lineBusy := some m, lineWait := w, bandCount := 3, nextBand := 3 }).eng .one)
    ((withEngine idle { idle.eng .one with lineWait := [.abandon] }).eng .one).lineWait = .abandon :: []
      ∧ (idle.eng .one).lineBusy = none
      ∧ (g .opening openMsg []).state = .opening ∧ (∀ n ∈ (g .opening openMsg [.abandon]).lineWait, n.isOpen = false)
      ∧ (g .streaming openMsg []).state ≠ .opening ∧ (∃ n ∈ (g .opening .abandon [openMsg]).lineWait, n.isOpen = true)
      ∧ (g .streaming (.band 2 1 [0]) []).nextBand = (g .streaming (.band 2 1 [0]) []).bandCount
      ∧ (∃ n ∈ (g .streaming (.band 1 2 [0]) [.band 2 1 [0]]).lineWait, n.isBand = true)
      ∧ (g .abandoning (.band 2 1 [0]) []).state ≠ .streaming
      ∧ (g .closing (.pageClose 3) []).lineBusy = some (.pageClose 3) ∧ (g .faulted (.pageClose 3) []).state ≠ .closing
      ∧ (g .abandoning .abandon []).lineBusy = some .abandon ∧ (g .offline .abandon []).state ≠ .abandoning
      ∧ (∀ n ∈ (g .abandoning .abandon []).lineWait, n.isAbandon = false)
      ∧ (∃ n ∈ (g .abandoning .abandon [.abandon]).lineWait, n.isAbandon = true)
      ∧ (∃ n ∈ (g .streaming (.band 2 1 [0]) [openMsg]).lineWait, n.isOpen = true)
      ∧ (g .idle (.transit 5 [1]) []).lineBusy = some (.transit 5 [1]) := by
  decide

/-- QueueHeadOpensAPage. -/
theorem test_hyps_queue_head :
    let s := withEngine (withOrder0 idle { order0 with items := [item .queued] })
      { idle.eng .one with state := .idle, queue := [{ order := 0, item := 0 }] }
    s.part = .running ∧ s.resetLow = false ∧ (s.eng .one).state = .idle
      ∧ (s.eng .one).queue = { order := 0, item := 0 } :: []
      ∧ (s.order 0).items[0]? = some (item .queued) ∧ 1 ≤ (item .queued).bandRows ∧ 1 ≤ (item .queued).rows := by
  decide

/-- CreditsLetBandsThrough: 4 credits at once and one too many, in each engine state; CREDIT messages of 1 to 4, and of 0 and 5. -/
theorem test_hyps_credit (st : EngineState) :
    let s := withEngine idle { idle.eng .one with state := st, credits := 2 }
    s.resetLow = false ∧ (s.eng .one).state = st ∧ (s.eng .one).credits + 2 ≤ 4
      ∧ 4 < (s.eng .one).credits + 3 ∧ (0 : Byte).toNat < 1 ∧ 4 < (5 : Byte).toNat := by
  cases st <;> decide

/-- Each message of an engine, in the bytes that carry it. -/
theorem test_hyps_engine_in :
    (∀ n ∈ [1, 2, 3, 4], engineIn (engineBytes 0 0 0x0180 [BitVec.ofNat 8 n] []) = some (.credit n))
      ∧ engineIn (engineBytes 0 0 0x0181 [] []) = some .printed
      ∧ (∀ c ∈ [FaultCause.paperOut, .ribbonOut, .jam, .headTemp, .dataError, .other],
          engineIn (engineBytes 0 0 0x0182 [BitVec.ofNat 8 (causeCode c)] []) = some (.fault c))
      ∧ engineIn (engineBytes 0 0 0x0183 [] []) = some .abandoned
      ∧ (∀ b ∈ [[1, 15], [2, 0], [1]], engineIn (engineBytes 1 0 1 b []) = some (.transit 1 b)) := by
  decide +kernel

/-- An engine that reads the band 0 of an item over the boundary of two pages. -/
def bandReads (second : Bool) : State :=
  withEngine
    { withOrder0 idle { order0 with
        items := [{ item .printing with width := 4, offset := 65530 }],
        map := [{ page := 1, poisoned := false }, { page := 2, poisoned := second }] } with
      smc := { idle.smc with dram := [(65536 * 2 - 3, 8), (65536 * 2, 9), (65536 * 2 + 3, 10)] } }
    { idle.eng .one with
      state := .streaming, item := some { order := 0, item := 0 }, bandCount := 3, credits := 2,
      bandRead := some 0, nextBand := 0 }

/-- BandReadsFeedTheEngine: a clean window and one with a poisoned page. -/
theorem test_hyps_band :
    let it : Item := { item .printing with width := 4, offset := 65530 }
    let s := bandReads false
    let t := bandReads true
    (s.eng .one).state = .streaming ∧ (s.eng .one).stale = none ∧ (s.eng .one).bandRead = some 0
      ∧ (s.eng .one).nextBand = 0 ∧ (s.eng .one).item = some { order := 0, item := 0 }
      ∧ (s.order 0).items[0]? = some it ∧ it.bandOffset 0 + it.bandLength 0 ≤ windowSize (s.order 0).map
      ∧ (∀ x ∈ (s.order 0).map, s.hasPage x.page = true) ∧ s.smc.ecc = []
      ∧ (∀ x ∈ (s.order 0).map, x.poisoned = false) ∧ s.smc.bulk = none ∧ t.smc.bulk = none
      ∧ t.eccOn = true ∧ it.bandOffset 0 ≤ 65536 ∧ 65536 < it.bandOffset 0 + it.bandLength 0
      ∧ (t.order 0).map[65536 / 65536]? = some { page := 2, poisoned := true } ∧ (t.eng .one).wasted = false := by
  decide

/-- What that read sends. -/
theorem test_band :
    (match exec (.bandReadEnd .one []) (bandReads false) with
      | .next t => (t.eng .one).lineWait
      | _ => []) = [.band 0 2 ([0, 0, 0, 8, 0, 0, 9, 0, 0, 10] ++ List.replicate 14 0)] := by
  decide +kernel

/-- A band read of the second page left to end; `lost` once its order has been closed. -/
def staleRead (poisoned lost : Bool) : State :=
  withEngine (bandReads poisoned) { (bandReads poisoned).eng .one with
    bandRead := none, stale := some { order := 0, offset := 65530, length := 24, lost := lost } }

/-- BandReadsFeedTheEngine: reads left to end, of clean pages, with a poisoned page, of an order closed meanwhile. -/
theorem test_hyps_stale_read (poisoned lost : Bool) :
    let st : StaleRead := { order := 0, offset := 65530, length := 24, lost := lost }
    let s := staleRead poisoned lost
    (s.eng .one).stale = some st ∧ (s.eng .one).bandRead = none
      ∧ st.offset + st.length ≤ windowSize (s.order 0).map
      ∧ (∀ x ∈ (s.order 0).map, s.hasPage x.page = true) ∧ s.smc.ecc = [] ∧ s.smc.bulk = none
      ∧ s.eccOn = true ∧ ((s.order 0).map.map (fun x => x.page)).Nodup
      ∧ (poisoned = false → ∀ x ∈ (s.order 0).map, x.poisoned = false)
      ∧ (s.order 0).map[65530 / 65536]? = some { page := 1, poisoned := false } := by
  cases poisoned <;> cases lost <;> decide

/-- What such a read leaves: no message, and the next band read begins. -/
theorem test_stale_read :
    (match exec (.bandReadEnd .one []) (staleRead false false) with
      | .next t => some ((t.eng .one).lineWait, (t.eng .one).stale, (t.eng .one).bandRead, t.banks == idle.banks)
      | _ => none) = some ([], none, some 0, true) := by
  decide +kernel

/-- An engine with an open page of item 0 of order 0, item 1 in its queue. -/
def page (st : EngineState) (os : OrderState) (k : TimerKind) (delivered : Nat) : State :=
  withEngine (withOrder0 idle { order0 with
      state := os, items := [{ item .printing with delivered := delivered }, item .queued] })
    { idle.eng .one with
      state := st, item := some { order := 0, item := 0 }, copy := some (delivered + 1), bandCount := 3,
      timer := some { kind := k, length := 10, start := 0 }, queue := [{ order := 0, item := 1 }] }

/-- PagesEndByOutcomeFaultOrTimeout: every engine state, with and without cancelling, the first and the last copy, both timers (the messages are those of test_hyps_engine_in). -/
theorem test_hyps_page_end (st : EngineState) :
    let s := page st .open_ .response 0
    s.resetLow = false ∧ (s.eng .one).state = st ∧ (s.eng .one).item = some { order := 0, item := 0 }
      ∧ (s.eng .one).bandRead = none ∧ ({ order := 0, item := 0 } : ItemRef) ∉ (s.eng .one).queue
      ∧ (s.order 0).items[0]? = some (item .printing) ∧ (item .printing).state = .printing
      ∧ (item .printing).delivered + 1 ≠ (item .printing).copies ∧ (s.eng .one).wasted = false
      ∧ (s.eng .one).timer = some { kind := .response, length := 10, start := 0 }
      ∧ ((page st .open_ .page 1).order 0).items[0]? = some { item .printing with delivered := 1 }
      ∧ ({ item .printing with delivered := 1 } : Item).delivered + 1 = (item .printing).copies
      ∧ ((page st .open_ .page 1).eng .one).timer = some { kind := .page, length := 10, start := 0 }
      ∧ ((page st .cancelling .response 0).order 0).state = .cancelling := by
  cases st <;> decide

/-- PagesEndByOutcomeFaultOrTimeout: the notice queue has room, and the item in the engine's queue is there. -/
theorem test_hyps_page_notices :
    (page .closing .open_ .page 0).link.notices.length + 2 + 1 ≤ 64
      ∧ ((page .closing .open_ .page 0).order 0).items[1]? = some (item .queued)
      ∧ (page .closing .open_ .page 0).part ≠ .halted
      ∧ ({ page .closing .open_ .page 0 with part := .halted } : State).part = .halted := by
  decide

/-- The notices of a page timeout: ENGINE_EVENT with FAULTED, OTHER and WASTED_TIMEOUT, the item's ITEM_EVENT, that of the item that returns. -/
theorem test_page_timeout_notices :
    (match exec (.pageTimeout .one) (page .closing .open_ .page 0) with
      | .next t => t.link.notices.map (fun n => (n.kind, n.body.take 9))
      | _ => []) =
        [(.engineEvent, [1, 6, 0, 0xFF, 5, 0, 0, 1, 2]), (.itemEvent, [0, 0, 0, 0, 0, 0, 3, 0, 0]),
          (.itemEvent, [0, 0, 0, 0, 0, 1, 0, 0, 0])] := by
  decide +kernel

/-- An engine with a host message that waits for the line behind another, and before PAGE_CLOSE. -/
def lineOf (st : EngineState) (busy : EngineMsg) : State :=
  withEngine (page st .open_ .response 0) { (page st .open_ .response 0).eng .one with
    lineBusy := some busy, lineWait := [.band 0 1 [], .transit 5 [], .pageClose 3], transit := some 0 }

/-- EntryToHaltedStopsDeviceTraffic: a host message that is sent and one that waits. -/
theorem test_hyps_halt_transit (st : EngineState) :
    (lineOf st .abandon).part ≠ .halted ∧ ((lineOf st .abandon).eng .one).state = st
      ∧ ((lineOf st .abandon).eng .one).lineBusy = some .abandon
      ∧ ((lineOf st (.transit 9 [])).eng .one).lineBusy = some (.transit 9 []) := by
  cases st <;> decide

/-- The entry to HALTED drops the host message that waits, which is in flight no more; the one being sent stays (R179). -/
theorem test_halt_drops_waiting_transit :
    let after := fun (st : EngineState) (busy : EngineMsg) =>
      (((lineOf st busy).enterHalted.eng .one).lineWait, ((lineOf st busy).enterHalted.eng .one).transit)
    after .idle .abandon = ([.band 0 1 [], .pageClose 3], none)
      ∧ after .opening .abandon = ([.pageClose 3, .abandon], none)
      ∧ (after .closing (.transit 9 [])).2 = some 0 := by
  decide +kernel

/-- StatusReportsAreObserved: the ready byte and the media byte at their bounds, in each engine state (the messages are those of test_hyps_engine_in), and a report of another form. -/
theorem test_hyps_status (st : EngineState) :
    let s := page st .open_ .response 0
    s.resetLow = false ∧ (s.eng .one).state = st ∧ (1 : Byte).toNat < 2 ∧ (15 : Byte).toNat ≤ 15
      ∧ ¬ (16 : Byte).toNat ≤ 15 ∧ ([1] : Bytes).length < 2 ∧ 2 ≤ (2 : Byte).toNat ∧ s.part ≠ .halted ∧ (inPart .halted).part = .halted := by
  cases st <;> decide

/-- EngineTransitTrafficIsClassified: a message from the engine, one while another is held, no room, other part states, a malformed one, a host message that is short. -/
theorem test_hyps_engine_transit :
    let held := withEngine idle { idle.eng .one with upMsg := some { gen := 0, observed := true }, upHeld := true }
    let noRoom : State := { held with link := { held.link with upQueue := List.replicate 16 upFrame } }
    engineIn (engineBytes 1 3 9 [4] []) = some (.transit 9 [4]) ∧ (9 : Word16) ≠ 1
      ∧ (held.eng .one).upHeld = true ∧ noRoom.room = false ∧ noRoom.link.state = .up
      ∧ (inPart .halted).part ≠ .running ∧ ({ idle with link := State.reset.link } : State).link.state ≠ .up
      ∧ engineIn (engineBytes 2 0 9 [] []) = none
      ∧ (∀ p ∈ [PartState.unconfigured, .training, .running, .halted],
          Ready { bound with part := p } (.engineDown .one) (frame 6 2 0 [1, 0, 0, 9, 0]))
      ∧ beNat [(0 : Byte), 1] ≠ ([] : Bytes).length := by
  decide +kernel

/-- An engine that holds one message while another is being received; the rules pass engine messages. -/
def holdingUp (part : PartState) (fip : Bool) : State :=
  withEngine { bound with part := part, fip := fip }
    { bound.eng .one with upMsg := some { gen := 0, observed := true }, upHeld := true }

/-- EngineTransitTrafficIsClassified: a message completed while another is held, in each part state. -/
theorem test_hyps_engine_held (part : PartState) :
    (holdingUp part false).resetLow = false ∧ ((holdingUp part false).eng .one).upHeld = true
      ∧ ((holdingUp part false).eng .one).upMsg = some { gen := 0, observed := true }
      ∧ (holdingUp part false).part = part := by
  cases part <;> decide

/-- A message completed while another is held is classified before it is discarded (R146, R67): a bad entry is reported, with ENGINE_PROTOCOL after it, in RUNNING; outside it no entry is read. -/
theorem test_held_message_is_classified :
    let after := fun (part : PartState) (fip : Bool) =>
      match exec (.engineTransitUp .one (engineBytes 1 0 9 [] []) [] []
          [{ image := .active, index := 0, bit := 0 }]) (holdingUp part fip) with
      | .next t => (t.rules.valid, (t.bank .tables).record.isSome, (t.bank .print).record.isSome, t.part)
      | _ => (true, false, false, .training)
    after .running false = (false, true, true, .running)
      ∧ after .running true = (false, true, true, .halted)
      ∧ after .unconfigured false = (true, false, true, .unconfigured) := by
  decide +kernel

/-- EngineTransitTrafficIsClassified: a message from the engine that passes, a host message with an empty body, one that a rule refuses, and one without room at the port. -/
theorem test_hyps_engine_passes :
    let m : UpMsg := { gen := 0, observed := false }
    let s := withEngine idle { idle.eng .one with upMsg := some m }
    let s1 := s.touchIdle .one
    let f : DownFrame := frame 6 2 0 ([1, 0, 0, 9, 0, 0] ++ [])
    let full := withEngine bound { idle.eng .one with transit := some 0 }
    (idle.eng .one).upMsg = none ∧ (s.eng .one).upMsg = some m ∧ (s.eng .one).upHeld = false
      ∧ s.resetLow = false ∧ s.part = .running
      ∧ s1.classify m.gen (engineMsg true 9) = (s1, .found .pass none 0 .absent)
      ∧ s.link.state = .up ∧ s.link.upQueue.length + s.reserved + 1 ≤ 16 ∧ s.link.waiting = []
      ∧ Ready bound (.engineDown .one) f ∧ beNat [(0 : Byte), 0] = ([] : Bytes).length
      ∧ (bound.flipBits []).classify (bound.portGen (.enginePort .one)) (engineMsg false 9)
          = (bound, .found .pass (some 5) 0 .absent)
      ∧ (bound.eng .one).transit = none
      ∧ ((idle.flipBits []).classify (idle.portGen (.enginePort .one)) (engineMsg false 9)).2
          = .found .refuse none 0 .absent
      ∧ Ready full (.engineDown .one) f ∧ (full.eng .one).transit.isSome
      ∧ (idle.eng .one).state ∈ [.offline, .idle, .faulted] ∧ (bound.order 0).permits.engineService = true
      ∧ (opened.order 0).permits.engineService = false := by
  decide +kernel

/-- A report of another media returns the item that waits to PENDING, with ENGINE_EVENT before its ITEM_EVENT. -/
theorem test_status_report :
    let s := page .closing .open_ .page 0
    let s1 := withEngine s { s.eng .one with media := some 1, ready := true }
    (match exec (.engineStatusReport .one (engineBytes 1 0 1 [1, 2] [])) s1 with
      | .next t => ((t.order 0).items.map (fun it => it.state), t.link.notices.map (fun n => n.kind),
          (t.eng .one).queue.length)
      | _ => ([], [], 9)) = ([.printing, .pending], [.engineEvent, .itemEvent], 0) := by
  decide +kernel

/-- A host message that is on the line when the part is reset stays in flight until it has been sent: the next one finds the port busy. -/
theorem test_transit_over_reset :
    let s := withEngine idle { idle.eng .one with lineBusy := some (.transit 9 []), transit := some 0 }
    (match exec .resetLineLow s with
      | .next t => (t.eng .one).transit
      | _ => none) = some 0 := by
  decide +kernel

/-! ### Payment -/

/-- An entry of the payment port. -/
def payEntry (dir cls width : Nat) : RuleEntry :=
  { direction := dir, portClass := 2, requestKind := 0, action := 0, code := 0, mask := 0, payClass := cls,
    amtOffset := 2, amtWidth := width, amtFormat := 0, good := true }

/-- Order 0 with a payment record and every permit, under one payment entry. -/
def paying (e : RuleEntry) (p : PayRec) : State :=
  { withOrder0 idle { order0 with
      pay := p, permits := { cardWrite := true, engineService := true, paymentRefund := true } } with
    rules := { idle.rules with active := { idle.rules.active with rules := [e] } } }

/-- PaymentMessagesAreAdmittedByClass: each class in the pay state that admits it, no class, no rule, the monitor in use, a refund of all that is left and of one more, an amount past the message. -/
theorem test_hyps_pay_down :
    let f := frame 8 2 0 [1, 2, 3, 4]
    let v := fun (s : State) (b : Bytes) => (s.classify (s.portGen .payDown) (payMsg false (s.imageOf 0).pay b)).2
    let fresh := paying (payEntry 0 1 2) .empty
    let refund := paying (payEntry 0 4 2) { PayRec.empty with state := .captured, captured := 800, refunded := 28 }
    let bought := paying (payEntry 0 2 2) { PayRec.empty with state := .authorised, authorised := 772 }
    let busy : State := { fresh with pay := { fresh.pay with
      monitor := some { order := 1, cls := .void_, amount := none, prior := none, length := 60, start := 5 } } }
    Ready fresh .payDown f ∧ fresh.part = .running ∧ orderOfByte f.order = some 0 ∧ (fresh.order 0).live = true
      ∧ v fresh f.payload = .found .pass (some 0) 1 (.value 772) ∧ payClassOf 1 = some .authorise
      ∧ (fresh.order 0).pay.state = .none_ ∧ (fresh.order 0).state = .open_ ∧ fresh.pay.monitor = none
      ∧ v (paying (payEntry 0 0 0) .empty) f.payload = .found .pass (some 0) 0 .absent
      ∧ v idle f.payload = .found .refuse none 0 .absent ∧ busy.pay.monitor ≠ none
      ∧ v refund f.payload = .found .pass (some 0) 4 (.value 772) ∧ 28 + 772 = (refund.order 0).pay.captured
      ∧ v refund [1, 2, 3, 5] = .found .pass (some 0) 4 (.value 773)
      ∧ v refund [1, 2, 3] = .found .pass (some 0) 4 .unreadable
      ∧ v bought f.payload = .found .pass (some 0) 2 (.value 772) ∧ (bought.order 0).pay.state = .authorised
      ∧ v (paying (payEntry 0 3 0) .empty) f.payload = .found .pass (some 0) 3 .absent
      ∧ Ready { fresh with part := .halted } .payDown f ∧ Ready { fresh with part := .training } .payDown f
      ∧ oneBusy.pay.tx = { bytes := [1], gen := 0 } :: [] := by
  decide +kernel

/-- A message of 4 bytes finds 2 bytes of room too few until 2 more bytes of the oldest message have left; its last byte does not leave here. -/
theorem test_line_sends :
    let s : State := holding { paying (payEntry 0 0 0) .empty with pay := { idle.pay with
      tx := [{ bytes := List.replicate 254 1, gen := 0 }] } } (frame 8 2 0 [1, 2, 3, 4])
    let fill := fun (left : Nat) => match exec (.paymentTransitDown left []) s with
      | .next t => t.pay.tx.map (fun m => m.bytes.length)
      | _ => []
    fill 1 = [253] ∧ fill 2 = [252, 4] ∧ fill 300 = [1, 4] := by
  decide +kernel

/-- The framer and the receive FIFO as given. -/
def framing (f : Framer) (rx : List RxByte) : State := { idle with pay := { idle.pay with framer := f, rx := rx } }

/-- FramerAssemblesMessages: 255 and 256 bytes held, an empty FIFO in each mode, and the byte that each framing takes. -/
theorem test_hyps_framer :
    let prefixed : Framer := { Framer.atReset with
      profile := { PayProfile.atReset with lenOffset := 1, lenAdjust := 1 }, mode := .inMessage, msg := [9] }
    let marked : Framer := { Framer.atReset with
      profile := { PayProfile.atReset with framing := 1, trailing := 1 }, mode := .inMessage, msg := [2] }
    let b := fun (x : Byte) => ({ byte := x, damaged := false, afterGap := false } : RxByte)
    let len := fun (x : Byte) => (beNat (([9, x].drop 1).take 1) : Int) + 1
    (framing prefixed (List.replicate 255 (b 0))).pay.rx.length < 256
      ∧ 256 ≤ (framing prefixed (List.replicate 256 (b 0))).pay.rx.length ∧ prefixed.complete = false
      ∧ prefixed.held = false ∧ prefixed.mode = .inMessage ∧ Framer.atReset.mode ≠ .inMessage
      ∧ ({ prefixed with mode := .resync } : Framer).profile.framing = 0 ∧ marked.profile.framing ≠ 0
      ∧ (framing prefixed [b 1]).pay.rx = b 1 :: [] ∧ ([9] : Bytes).length < 1 + 1
      ∧ len 0 < 2 ∧ len 1 = 2 ∧ len 255 ≤ 256 ∧ len 2 ≠ 2
      ∧ (b 2).byte = marked.profile.startByte ∧ (b 3).byte = marked.profile.endByte
      ∧ marked.msg ≠ [] ∧ marked.trail = none ∧ idle.resetLow = false
      ∧ ({ idle.pay with lineIdle := true } : Payment).lineIdle = true ∧ idle.pay.lineIdle = false := by
  decide +kernel

/-- A gap after the last byte that the framer has not yet taken ends the message when it takes it. -/
theorem test_gap_before_take :
    let f : Framer := { Framer.atReset with
      profile := { PayProfile.atReset with lenAdjust := 2 }, mode := .inMessage, msg := [9] }
    let s := framing f [{ byte := 1, damaged := false, afterGap := false }]
    let take := fun idle_ : Bool => match exec .framerTakeByte { s with pay := { s.pay with lineIdle := idle_ } } with
      | .next t => (t.pay.framer.mode, (t.bank .payment).record.isSome)
      | _ => (.waiting, false)
    take false = (.inMessage, false) ∧ take true = (.resync, true) := by
  decide +kernel

/-- A complete terminal message of outcome class k for the class the monitor is bound to. -/
def outcome (cls : PayClass) (amount : Option Nat) (prior : Option PayState) (k width : Nat) (p : PayRec) : State :=
  { paying (payEntry 1 k width) p with
    pay := { idle.pay with
      monitor := some { order := 0, cls := cls, amount := amount, prior := prior, length := 60, start := 5 },
      framer := { Framer.atReset with mode := .inMessage, msg := [1, 2, 3, 4], complete := true } } }

/-- OutcomesSettlePayments: the outcomes with and without an amount, and a message that no order awaits. -/
theorem test_hyps_outcomes :
    let req : PayRec := { PayRec.empty with state := .requested }
    let s := outcome .authorise (some 772) (some .declined) 5 2 req
    let t := outcome .capture (some 771) none 7 2 { PayRec.empty with state := .capturePending, authorised := 900 }
    let u := outcome .void_ none none 8 0 { PayRec.empty with state := .voidPending, authorised := 900 }
    let late : State := { u with pay := { u.pay with monitor := none } }
    let v := fun (s : State) => s.classify 0 (payMsg true s.pay.framer.profile s.pay.framer.msg)
    s.pay.framer.complete = true ∧ s.pay.framer.mode ≠ .resync ∧ s.part = .running
      ∧ s.link.state = .up ∧ s.link.upQueue.length + s.reserved + 1 ≤ 16 ∧ s.link.waiting = []
      ∧ v s = (s, .found .pass (some 0) 5 (.value 772)) ∧ outcomeOf 5 = some .approved
      ∧ s.pay.monitor = some { order := 0, cls := .authorise, amount := some 772, prior := some .declined, length := 60, start := 5 }
      ∧ v t = (t, .found .pass (some 0) 7 (.value 772)) ∧ outcomeOf 7 = some .captured
      ∧ v u = (u, .found .pass (some 0) 8 .absent) ∧ outcomeOf 8 = some .voided
      ∧ outcomeOf 0 = none ∧ outcomeOf 10 = some .terminalError ∧ late.pay.monitor = none
      ∧ v late = (late, .found .pass (some 0) 8 .absent)
      ∧ ({ s with part := .halted } : State).part ≠ .running := by
  decide +kernel

/-- A smaller sum than the one asked for is what is authorised; a capture of another sum makes the order UNKNOWN. -/
theorem test_outcomes :
    (match exec (.terminalMessageComplete []) (outcome .authorise (some 800) none 5 2 { PayRec.empty with state := .requested }) with
      | .next t => ((t.order 0).pay.state, (t.order 0).pay.authorised)
      | _ => (.none_, 0)) = (.authorised, 772)
    ∧ (match exec (.terminalMessageComplete []) (outcome .capture (some 771) none 7 2
        { PayRec.empty with state := .capturePending, authorised := 900 }) with
      | .next t => ((t.order 0).pay.state, (t.order 0).pay.lost)
      | _ => (.none_, none)) = (.unknown, some .capture) := by
  decide +kernel

end Sys2Proof.Tests
end

section
/-! Validation of a rule image (R51, R59, R63): an image without a fault is one whose every check passes, and the checks of each record are the ranges of the manual. -/

namespace Sys2Proof.Proofs.TrafficRules

open Sys2Proof.Machine

/-! ## The first fault of a part -/

/-- No fault is found in a part exactly when every check of every record passes. -/
theorem firstFault_eq_none_iff (part : Nat) (name : Nat → Option Nat) (records : List (List Bool)) :
    ∀ i, firstFault part name i records = none ↔ ∀ cs ∈ records, ∀ ok ∈ cs, ok = true := by
  induction records with
  | nil => simp [firstFault]
  | cons cs rest ih =>
    intro i
    have hcs : cs.findIdx? (fun ok => !ok) = none ↔ ∀ ok ∈ cs, ok = true := by
      simp [List.findIdx?_eq_none_iff]
    unfold firstFault
    split
    · rename_i k hk
      have hbad : ¬ ∀ ok ∈ cs, ok = true := fun h => by simp [hcs.2 h] at hk
      simp only [List.forall_mem_cons, hbad, false_and, reduceCtorEq]
    · rename_i hk
      rw [ih, List.forall_mem_cons]
      exact (and_iff_right (hcs.1 hk)).symm

/-- An image is without a fault exactly when each of its five parts is. -/
theorem Image.fault_eq_none_iff (im : Image) : im.fault = none ↔
    (∀ e ∈ im.rules, ∀ ok ∈ e.checks, ok = true)
      ∧ (∀ p ∈ im.prices.toList, ∀ ok ∈ p.checks, ok = true)
      ∧ (∀ p ∈ im.slots.toList, ∀ ok ∈ p.checks, ok = true)
      ∧ (∀ p ∈ im.engines.toList, ∀ ok ∈ p.checks, ok = true)
      ∧ ∀ ok ∈ im.pay.checks, ok = true := by
  simp only [Image.fault, Option.or_eq_none_iff, firstFault_eq_none_iff, List.forall_mem_map,
    List.forall_mem_singleton]

/-! ## The checks of each record -/

/-- The values of R51 that pass R63 in a rule entry. -/
def SoundEntry (e : RuleEntry) : Prop :=
  e.direction ≤ 1 ∧ e.portClass ≤ 2 ∧ (e.portClass = 0 → e.requestKind ≤ 4)
    ∧ (e.direction = 0 → e.action ≤ 3) ∧ (e.direction = 1 → e.action = 0 ∨ e.action = 4)
    ∧ (e.payClass ≠ 0 → e.portClass = 2)
    ∧ (e.payClass ≠ 0 → e.direction = 0 → e.payClass ≤ 4 ∧ e.action ≠ 3)
    ∧ (e.payClass ≠ 0 → e.direction = 1 → 5 ≤ e.payClass ∧ e.payClass ≤ 10)
    ∧ (e.amtWidth ≠ 0 → e.payClass ≠ 0 ∧ e.amtWidth ≤ 6 ∧ e.amtFormat ≤ 2)
    ∧ (e.direction = 0 → e.payClass ∈ [1, 2, 4] → e.amtWidth ≠ 0)

theorem RuleEntry.actionOk_iff {e : RuleEntry} (hd : e.direction ≤ 1) : e.actionOk = true ↔
    (e.direction = 0 → e.action ≤ 3) ∧ (e.direction = 1 → e.action = 0 ∨ e.action = 4) := by
  obtain h | h : e.direction = 0 ∨ e.direction = 1 := by omega
  · simp [RuleEntry.actionOk, h]
  · simp [RuleEntry.actionOk, h]

theorem RuleEntry.classOk_iff {e : RuleEntry} (hd : e.direction ≤ 1) : e.classOk = true ↔
    (e.payClass ≠ 0 → e.portClass = 2)
      ∧ (e.payClass ≠ 0 → e.direction = 0 → e.payClass ≤ 4 ∧ e.action ≠ 3)
      ∧ (e.payClass ≠ 0 → e.direction = 1 → 5 ≤ e.payClass ∧ e.payClass ≤ 10) := by
  by_cases hc : e.payClass = 0
  · simp [RuleEntry.classOk, hc]
  have hpos : 1 ≤ e.payClass := Nat.one_le_iff_ne_zero.2 hc
  obtain h | h : e.direction = 0 ∨ e.direction = 1 := by omega
  · simp [RuleEntry.classOk, h, hc, hpos]
  · simp [RuleEntry.classOk, h, hc]

theorem RuleEntry.amountOk_iff (e : RuleEntry) : e.amountOk = true ↔
    (e.amtWidth ≠ 0 → e.payClass ≠ 0 ∧ e.amtWidth ≤ 6 ∧ e.amtFormat ≤ 2)
      ∧ (e.direction = 0 → e.payClass ∈ [1, 2, 4] → e.amtWidth ≠ 0) := by
  by_cases hw : e.amtWidth = 0
  · by_cases hd : e.direction = 0
    · simp [RuleEntry.amountOk, hw, hd, and_assoc]
    · simp [RuleEntry.amountOk, hw, hd]
  · simp [RuleEntry.amountOk, hw, and_assoc]

/-- The checks of an entry pass exactly when it is sound. The action and the class are checked by direction, so these two use that the direction is DOWN or UP. -/
theorem RuleEntry.checks_iff (e : RuleEntry) : (∀ ok ∈ e.checks, ok = true) ↔ SoundEntry e := by
  by_cases hd : e.direction ≤ 1
  · have hkind : (e.portClass != 0 || decide (e.requestKind ≤ 4)) = true
        ↔ (e.portClass = 0 → e.requestKind ≤ 4) := by
      by_cases h : e.portClass = 0 <;> simp [h]
    simp only [RuleEntry.checks, List.forall_mem_cons, List.not_mem_nil, false_implies,
      implies_true, and_true, true_and, decide_eq_true_eq, hkind, RuleEntry.actionOk_iff hd,
      RuleEntry.classOk_iff hd, RuleEntry.amountOk_iff, SoundEntry, and_assoc]
  · simp [RuleEntry.checks, SoundEntry, hd]

theorem Price.checks_iff (p : Price) :
    (∀ ok ∈ p.checks, ok = true) ↔ p.unit ≤ 9999999 ∧ p.media ≤ 15 := by
  simp only [Price.checks, List.forall_mem_cons, decide_eq_true_eq,
    List.not_mem_nil, false_implies, implies_true, and_true]
  exact Iff.rfl

theorem SlotProfile.checks_iff (p : SlotProfile) : (∀ ok ∈ p.checks, ok = true) ↔
    2 ≤ p.divider ∧ p.divider ≤ 250 ∧ 1 ≤ p.response ∧ p.response ≤ 1000
      ∧ 1 ≤ p.block ∧ p.block ≤ 2000 ∧ p.depth ≤ 16 := by
  simp [SlotProfile.checks, and_assoc]

theorem EngineProfile.checks_iff (p : EngineProfile) : (∀ ok ∈ p.checks, ok = true) ↔
    1 ≤ p.response ∧ p.response ≤ 60 ∧ 10 ≤ p.page ∧ p.page ≤ 600 := by
  simp [EngineProfile.checks, and_assoc]

theorem PayProfile.checks_iff (p : PayProfile) : (∀ ok ∈ p.checks, ok = true) ↔
    p.baud ∈ [9600, 19200, 38400, 57600, 115200] ∧ p.framing ≤ 1
      ∧ p.lenOffset ≤ 15 ∧ 1 ≤ p.lenWidth ∧ p.lenWidth ≤ 2
      ∧ -16 ≤ p.lenAdjust ∧ p.lenAdjust ≤ 16 ∧ p.endByte ≠ p.startByte
      ∧ p.trailing ≤ 4 ∧ p.codeOffset ≤ 15 ∧ 1 ≤ p.codeWidth ∧ p.codeWidth ≤ 2
      ∧ 5 ≤ p.timeout ∧ p.timeout ≤ 600 := by
  simp [PayProfile.checks, and_assoc]

/-- Settles O40: a fault of the image is a check that fails, and the checks of each record are its ranges. -/
theorem validationAdmitsOnlySoundImages : Obligations.ValidationAdmitsOnlySoundImages := by
  intro im
  rw [Image.fault_eq_none_iff]
  simp only [RuleEntry.checks_iff, Price.checks_iff, SlotProfile.checks_iff,
    EngineProfile.checks_iff, PayProfile.checks_iff, SoundEntry]

end Sys2Proof.Proofs.TrafficRules
end

section
/-! Classification (R52, R55, R56, R67, R68): the first entry that fits or whose parity is bad decides, and the amount that an entry takes from a message. -/

namespace Sys2Proof.Proofs.TrafficRules

open Sys2Proof.Machine

/-! ## Reading the rule list (R52, R67) -/

/-- Entries with good parity that do not fit the message are passed over. -/
theorem scanRules_drop (m : Msg) : ∀ (n k : Nat) (rules : List RuleEntry),
    (∀ j g, j < n → rules[j]? = some g → g.good = true ∧ g.fitsMsg m = false) →
    n ≤ rules.length → scanRules m k rules = scanRules m (k + n) (rules.drop n)
  | 0, _, _, _, _ => rfl
  | n + 1, k, [], _, hn => absurd hn (by simp)
  | n + 1, k, e :: es, h, hn => by
    obtain ⟨hgood, hfit⟩ := h 0 e (Nat.succ_pos n) rfl
    have hrest : ∀ j g, j < n → es[j]? = some g → g.good = true ∧ g.fitsMsg m = false :=
      fun j g hj hg => h (j + 1) g (Nat.succ_lt_succ hj) hg
    calc scanRules m k (e :: es)
        = scanRules m (k + 1) es := by simp [scanRules, hgood, hfit]
      _ = scanRules m (k + 1 + n) (es.drop n) :=
          scanRules_drop m n (k + 1) es hrest (Nat.le_of_succ_le_succ hn)
      _ = scanRules m (k + (n + 1)) ((e :: es).drop (n + 1)) := by
          rw [List.drop_succ_cons, Nat.add_right_comm, Nat.add_assoc]

/-- When every entry before entry `i` is passed over, entry `i` is the next one read. -/
theorem scanRules_at {m : Msg} {rules : List RuleEntry} {i : Nat} {e : RuleEntry}
    (he : rules[i]? = some e)
    (hpast : ∀ j g, j < i → rules[j]? = some g → g.good = true ∧ g.fitsMsg m = false) :
    scanRules m 0 rules = scanRules m i (e :: rules.drop (i + 1)) := by
  obtain ⟨hi, rfl⟩ := List.getElem?_eq_some_iff.1 he
  rw [scanRules_drop m i 0 rules hpast (Nat.le_of_lt hi), Nat.zero_add, List.drop_eq_getElem_cons hi]

theorem scanRules_none {m : Msg} {rules : List RuleEntry}
    (h : ∀ g ∈ rules, g.good = true ∧ g.fitsMsg m = false) : scanRules m 0 rules = .none_ := by
  rw [scanRules_drop m rules.length 0 rules (fun _ _ _ hg => h _ (List.mem_of_getElem? hg))
    (Nat.le_refl _),
    List.drop_length]
  rfl

theorem scanRules_hit {m : Msg} {rules : List RuleEntry} {i : Nat} {e : RuleEntry}
    (he : rules[i]? = some e) (hgood : e.good = true) (hfit : e.fitsMsg m = true)
    (hpast : ∀ j g, j < i → rules[j]? = some g → g.good = true ∧ g.fitsMsg m = false) :
    scanRules m 0 rules = .hit i e := by
  rw [scanRules_at he hpast]
  simp [scanRules, hgood, hfit]

theorem scanRules_badParity {m : Msg} {rules : List RuleEntry} {i : Nat} {e : RuleEntry}
    (he : rules[i]? = some e) (hbad : e.good = false)
    (hpast : ∀ j g, j < i → rules[j]? = some g → g.good = true ∧ g.fitsMsg m = false) :
    scanRules m 0 rules = .badParity i := by
  rw [scanRules_at he hpast]
  simp [scanRules, hbad]

/-! ## The classification -/

/-- A bad entry that is read is reported with its index, and its generation is INVALID (R67, R68). -/
theorem classify_badParity {s : State} {gen i : Nat} {m : Msg} (hv : s.genValid gen = true)
    (hscan : scanRules m 0 (s.imageOf gen).rules = .badParity i) :
    s.classify gen m = ((s.markInvalid gen).report
      { unit := .ruleUnit, op := .matchIn (if gen = s.rules.gen then .active else .pending),
        cause := .ruleParity } none (some (.rule i)), .invalid) := by
  simp [State.classify, hv, hscan]

/-- The four cases of R52, R67 and R68. -/
theorem classify_firstMatch (s : State) (gen : Nat) (m : Msg) :
    let rules := (s.imageOf gen).rules
    (s.genValid gen = false → s.classify gen m = (s, .invalid))
    ∧ (s.genValid gen = true → ∀ i e, rules[i]? = some e → e.good = true → e.fitsMsg m = true →
        (∀ j g, j < i → rules[j]? = some g → g.good = true ∧ g.fitsMsg m = false) →
        s.classify gen m = (s, .found (actionOf e.action) (some i) e.payClass
          (if e.payClass = 0 then .absent else e.amount m.bytes)))
    ∧ (s.genValid gen = true → (∀ g ∈ rules, g.good = true ∧ g.fitsMsg m = false) →
        s.classify gen m = (s, .found (if m.up then .pass else .refuse) none 0 .absent))
    ∧ (s.genValid gen = true → ∀ i e, rules[i]? = some e → e.good = false →
        (∀ j g, j < i → rules[j]? = some g → g.good = true ∧ g.fitsMsg m = false) →
        let img : ImageName := if gen = s.rules.gen then .active else .pending
        s.classify gen m = ((s.markInvalid gen).report
          { unit := .ruleUnit, op := .matchIn img, cause := .ruleParity } none (some (.rule i)),
          .invalid)) := by
  refine ⟨State.classify_invalid s gen m, ?_, ?_, ?_⟩
  · intro hv i e he hgood hfit hpast
    have hscan := scanRules_hit he hgood hfit hpast
    rw [State.classify_valid s gen m hv (by simp [hscan]), hscan]
    rfl
  · intro hv hall
    have hscan := scanRules_none hall
    rw [State.classify_valid s gen m hv (by simp [hscan]), hscan]
    rfl
  · intro hv i e he hbad hpast
    exact classify_badParity hv (scanRules_badParity he hbad hpast)

/-! ## Amounts (R55) -/

theorem amount_absent {e : RuleEntry} (bytes : Bytes) (hw : e.amtWidth = 0) :
    e.amount bytes = .absent := by
  simp [RuleEntry.amount, hw]

theorem amount_short {e : RuleEntry} {bytes : Bytes} (hw : e.amtWidth ≠ 0)
    (h : bytes.length < e.amtOffset + e.amtWidth) : e.amount bytes = .unreadable := by
  simp [RuleEntry.amount, hw, h]

/-- The number that a field of a format carries; none when a half-byte is no digit. -/
def fieldNat (format : Nat) (field : Bytes) : Option Nat :=
  match format with
  | 0 => some (beNat field)
  | 1 => some (leNat field)
  | _ => bcdNat field

/-- The amount of a field that lies inside the message. -/
theorem amount_inside {e : RuleEntry} {bytes : Bytes} (hw : e.amtWidth ≠ 0)
    (h : e.amtOffset + e.amtWidth ≤ bytes.length) : e.amount bytes =
      match fieldNat e.amtFormat ((bytes.drop e.amtOffset).take e.amtWidth) with
      | some n => if n ≤ 999999999999 then .value n else .unreadable
      | none => .unreadable := by
  unfold RuleEntry.amount
  rw [if_neg hw, if_neg (Nat.not_lt.2 h)]
  rfl

theorem amount_value {e : RuleEntry} {bytes : Bytes} {n : Nat} (hw : e.amtWidth ≠ 0)
    (h : e.amtOffset + e.amtWidth ≤ bytes.length)
    (hn : fieldNat e.amtFormat ((bytes.drop e.amtOffset).take e.amtWidth) = some n)
    (hle : n ≤ 999999999999) : e.amount bytes = .value n := by
  rw [amount_inside hw h, hn]
  exact if_pos hle

theorem amount_notDigits {e : RuleEntry} {bytes : Bytes} (hw : e.amtWidth ≠ 0)
    (h : e.amtOffset + e.amtWidth ≤ bytes.length)
    (hn : fieldNat e.amtFormat ((bytes.drop e.amtOffset).take e.amtWidth) = none) :
    e.amount bytes = .unreadable := by
  rw [amount_inside hw h, hn]

/-- A binary value above the largest amount is unreadable, and so is a field that ends past the message. -/
theorem amount_tooLarge {e : RuleEntry} {bytes : Bytes} (hw : e.amtWidth ≠ 0)
    (hf : e.amtFormat = 0) (hbig : 999999999999 < beNat ((bytes.drop e.amtOffset).take e.amtWidth)) :
    e.amount bytes = .unreadable := by
  by_cases h : bytes.length < e.amtOffset + e.amtWidth
  · exact amount_short hw h
  · rw [amount_inside hw (Nat.not_lt.1 h), hf]
    exact if_neg (Nat.not_le.2 hbig)

theorem bcdNat_singleton (b : Byte) : bcdNat [b] =
    if b.toNat / 16 ≤ 9 ∧ b.toNat % 16 ≤ 9 then some (b.toNat / 16 * 10 + b.toNat % 16) else none := by
  simp [bcdNat]

/-- A BCD field of one byte: two digits, or a half-byte above 9. -/
theorem amount_bcdByte {e : RuleEntry} {bytes : Bytes} {b : Byte} (hw : e.amtWidth = 1)
    (hf : e.amtFormat = 2) (hb : bytes[e.amtOffset]? = some b) :
    (9 < b.toNat / 16 ∨ 9 < b.toNat % 16 → e.amount bytes = .unreadable)
    ∧ (b.toNat / 16 ≤ 9 → b.toNat % 16 ≤ 9 →
        e.amount bytes = .value (b.toNat / 16 * 10 + b.toNat % 16)) := by
  obtain ⟨hlt, hget⟩ := List.getElem?_eq_some_iff.1 hb
  have hw0 : e.amtWidth ≠ 0 := by omega
  have hin : e.amtOffset + e.amtWidth ≤ bytes.length := by omega
  have hfield : fieldNat e.amtFormat ((bytes.drop e.amtOffset).take e.amtWidth) = bcdNat [b] := by
    rw [hf, hw, List.drop_eq_getElem_cons hlt, hget]
    rfl
  rw [bcdNat_singleton] at hfield
  constructor
  · intro hbad
    exact amount_notDigits hw0 hin (by rw [hfield, if_neg (by omega)])
  · intro hhi hlo
    exact amount_value hw0 hin (by rw [hfield, if_pos ⟨hhi, hlo⟩]) (by omega)

/-- The manual's example of R55 under each format. -/
theorem fieldNat_example :
    fieldNat 2 [0x01, 0x25, 0x90] = some 12590 ∧ fieldNat 0 [0x01, 0x25, 0x90] = some 75152
      ∧ fieldNat 1 [0x01, 0x25, 0x90] = some 9446657 := by
  decide

/-- Settles O42: the entries before the deciding one are passed over, so the list reads as if it began there; the amounts follow from the number the field carries. -/
theorem firstMatchingEntryClassifies : Obligations.FirstMatchingEntryClassifies := by
  refine ⟨classify_firstMatch, fun e bytes => ⟨?_, amount_short, amount_tooLarge, ?_,
    amount_absent bytes⟩⟩
  · intro ho hw hlen hfield
    obtain ⟨hbcd, hbe, hle⟩ := fieldNat_example
    have hin : e.amtOffset + e.amtWidth ≤ bytes.length := by omega
    have hval : ∀ n, fieldNat e.amtFormat [0x01, 0x25, 0x90] = some n → n ≤ 999999999999 →
        e.amount bytes = .value n := fun n hn hle =>
      amount_value (by omega) hin (by rw [ho, hw, hfield, hn]) hle
    exact ⟨fun hf => hval _ (by rw [hf, hbcd]) (by decide),
      fun hf => hval _ (by rw [hf, hbe]) (by decide),
      fun hf => hval _ (by rw [hf, hle]) (by decide)⟩
  · intro hw hf b hb
    exact amount_bcdByte hw hf hb

end Sys2Proof.Proofs.TrafficRules
end

section
/-! The commit barrier (R62 to R65): what completing a barrier and switching ports leave behind, and COMMIT_TABLES. -/

namespace Sys2Proof.Proofs.TrafficRules

open Sys2Proof.Machine

/-! ## Prefetches discarded at the completion (R65, R112) -/

/-- A slot with neither a prefetch buffer nor a prefetch. -/
def NoPrefetch (s : State) (x : Slot) : Prop := (s.slot x).buf = none ∧ (s.slot x).prefetch = none

theorem slot_discardPrefetch (s : State) (x y : Slot) : (s.discardPrefetch x).slot y =
    if y = x then { s.slot x with buf := none, prefetch := none } else s.slot y := by
  have hframe : (s.discardPrefetch x).slot y
      = (s.updSlot x (fun r => { r with buf := none, prefetch := none })).slot y := by
    rw [State.discardPrefetch_frame]
    rfl
  rw [hframe]
  split
  · next h => rw [h, State.slot_updSlot_self]
  · next h => exact State.slot_updSlot_ne s _ h

theorem discardPrefetch_keeps {s : State} {y : Slot} (x : Slot) (h : NoPrefetch s y) :
    NoPrefetch (s.discardPrefetch x) y := by
  unfold NoPrefetch
  rw [slot_discardPrefetch]
  split
  · exact ⟨rfl, rfl⟩
  · exact h

theorem discardPrefetch_clears (s : State) (x : Slot) : NoPrefetch (s.discardPrefetch x) x := by
  simp [NoPrefetch, slot_discardPrefetch]

/-- Discarding over a list of slots clears those of the list, and those already clear stay so. -/
theorem discardList_clears (l : List Slot) : ∀ (s : State) (y : Slot),
    y ∈ l ∨ NoPrefetch s y → NoPrefetch (l.foldl State.discardPrefetch s) y := by
  induction l with
  | nil => intro s y h; simpa using h
  | cons x l ih =>
    intro s y h
    refine ih _ y ?_
    rcases h with h | h
    · rcases List.mem_cons.1 h with rfl | h
      · exact .inr (discardPrefetch_clears s y)
      · exact .inl h
    · exact .inr (discardPrefetch_keeps x h)

theorem discardAll_clears (s : State) (x : Slot) :
    NoPrefetch (allSlots.foldl State.discardPrefetch s) x :=
  discardList_clears allSlots s x (.inl (by cases x <;> decide))

/-! ## Completing a barrier (R65) -/

theorem withParity_withParity (im : Image) : im.withParity.withParity = im.withParity := by
  simp [Image.withParity, Function.comp_def]

/-- The Rule Unit once the last port has switched. -/
def committed (r : RuleUnit) (newValid : Bool) : RuleUnit :=
  { active := r.pendingImg.withParity, gen := nextGen r.gen, valid := newValid,
    pendingImg := r.pendingImg.withParity, barrier := none }

/-- The state in which the RESPONSE of a completed barrier is offered to the upstream queue. -/
def beforeResponse (s : State) (b : Barrier) : State :=
  allSlots.foldl State.discardPrefetch { s with rules := committed s.rules b.newValid }

theorem completeBarrier_eq (s : State) (b : Barrier) : s.completeBarrier b =
    ((beforeResponse s b).offer .commit (commitResponse b (nextGen s.rules.gen))).1 := rfl

theorem beforeResponse_frame (s : State) (b : Barrier) : beforeResponse s b =
    { s with rules := committed s.rules b.newValid, slots := (beforeResponse s b).slots,
             bus := (beforeResponse s b).bus } :=
  State.discardAll_frame { s with rules := committed s.rules b.newValid } allSlots

theorem completeBarrier_rules (s : State) (b : Barrier) :
    (s.completeBarrier b).rules = committed s.rules b.newValid := by
  rw [completeBarrier_eq, State.offer_frame, beforeResponse_frame]

theorem completeBarrier_clears (s : State) (b : Barrier) (x : Slot) :
    NoPrefetch (s.completeBarrier b) x := by
  have hslots : (s.completeBarrier b).slots = (beforeResponse s b).slots := by
    rw [completeBarrier_eq, State.offer_frame]
  unfold NoPrefetch State.slot
  rw [hslots]
  exact discardAll_clears _ x

/-- While the link is not UP the RESPONSE is discarded. -/
theorem completeBarrier_link_down {s : State} (b : Barrier) (h : s.link.state ≠ .up) :
    (s.completeBarrier b).link = s.link := by
  have hlink : (beforeResponse s b).link = s.link := by rw [beforeResponse_frame]
  rw [completeBarrier_eq, State.offer, if_pos (by rw [hlink]; exact h)]
  exact hlink

/-- With room in the upstream queue the RESPONSE is placed. -/
theorem completeBarrier_link_room {s : State} (b : Barrier) (hup : s.link.state = .up)
    (hroom : s.room = true) (hwait : s.link.waiting = []) : (s.completeBarrier b).link =
      { s.link with upQueue := s.link.upQueue
          ++ [{ commitResponse b (nextGen s.rules.gen) with fip := s.fip }] } := by
  have hacc : (beforeResponse s b).Accepts 1 := by
    rw [beforeResponse_frame]
    exact ⟨hup, Nat.succ_le_of_lt (of_decide_eq_true hroom), hwait⟩
  rw [completeBarrier_eq, State.offer_up _ _ _ hacc, State.place_up _ _ hacc.1,
    beforeResponse_frame]

/-! ## Switching ports (R64, R65) -/

/-- The ports that have switched once every port without a message in flight has. -/
def switchedPorts (s : State) (b : Barrier) : List Port :=
  allPorts.filter (fun p => b.switched.contains p || !s.portBusy p)

/-- The state after that switch, before the barrier may complete: the barrier's port set, and the framer under the new image when its port is one that switched now. -/
def switchPorts (s : State) (b : Barrier) : State :=
  let s1 : State := { s with rules := { s.rules with
    barrier := some { b with switched := switchedPorts s b } } }
  if (switchedPorts s b).contains .payUp && !b.switched.contains .payUp then s1.framerSwitch else s1

theorem switchPorts_frame (s : State) (b : Barrier) : switchPorts s b =
    { s with rules := { s.rules with barrier := some { b with switched := switchedPorts s b } },
             pay := (switchPorts s b).pay } := by
  unfold switchPorts
  dsimp only
  split <;> rfl

theorem settle_eq {s : State} {b : Barrier} (hb : s.rules.barrier = some b) : s.settle =
    if (switchedPorts s b).length = 8 then
      (switchPorts s b).completeBarrier { b with switched := switchedPorts s b }
    else switchPorts s b := by
  unfold State.settle
  rw [hb]
  rfl

theorem switchedPorts_all_iff (s : State) (b : Barrier) :
    (switchedPorts s b).length = 8 ↔ ∀ p ∈ allPorts, p ∈ switchedPorts s b := by
  have hall : (switchedPorts s b).length = 8 ↔ switchedPorts s b = allPorts :=
    List.length_filter_eq_length_iff.trans List.filter_eq_self.symm
  rw [hall]
  constructor
  · intro h p hp
    rwa [h]
  · intro h
    exact List.filter_eq_self.2 (fun p hp => (List.mem_filter.1 (h p hp)).2)

/-- While a port is still busy the barrier goes on. -/
theorem settle_waits {s : State} {b : Barrier} (hb : s.rules.barrier = some b)
    (h : ∃ p ∈ allPorts, p ∉ switchedPorts s b) : s.settle = switchPorts s b := by
  rw [settle_eq hb, if_neg]
  intro h8
  obtain ⟨p, hp, hns⟩ := h
  exact hns ((switchedPorts_all_iff s b).1 h8 p hp)

/-- With the last switch the barrier completes. -/
theorem settle_completes {s : State} {b : Barrier} (hb : s.rules.barrier = some b)
    (h : ∀ p ∈ allPorts, p ∈ switchedPorts s b) : s.settle =
      (switchPorts s b).completeBarrier { b with switched := switchedPorts s b } := by
  rw [settle_eq hb, if_pos ((switchedPorts_all_iff s b).2 h)]

theorem settle_waits_rules {s : State} {b : Barrier} (hb : s.rules.barrier = some b)
    (h : ∃ p ∈ allPorts, p ∉ switchedPorts s b) :
    s.settle.rules = { s.rules with barrier := some { b with switched := switchedPorts s b } } := by
  rw [settle_waits hb h, switchPorts_frame]

theorem settle_waits_link {s : State} {b : Barrier} (hb : s.rules.barrier = some b)
    (h : ∃ p ∈ allPorts, p ∉ switchedPorts s b) : s.settle.link = s.link := by
  rw [settle_waits hb h, switchPorts_frame]

theorem settle_waits_slots {s : State} {b : Barrier} (hb : s.rules.barrier = some b)
    (h : ∃ p ∈ allPorts, p ∉ switchedPorts s b) : s.settle.slots = s.slots := by
  rw [settle_waits hb h, switchPorts_frame]

theorem settle_completes_rules {s : State} {b : Barrier} (hb : s.rules.barrier = some b)
    (h : ∀ p ∈ allPorts, p ∈ switchedPorts s b) : s.settle.rules = committed s.rules b.newValid := by
  rw [settle_completes hb h, completeBarrier_rules, switchPorts_frame]
  rfl

theorem settle_completes_clears {s : State} {b : Barrier} (hb : s.rules.barrier = some b)
    (h : ∀ p ∈ allPorts, p ∈ switchedPorts s b) (x : Slot) : NoPrefetch s.settle x := by
  rw [settle_completes hb h]
  exact completeBarrier_clears _ _ x

theorem settle_completes_link_down {s : State} {b : Barrier} (hb : s.rules.barrier = some b)
    (h : ∀ p ∈ allPorts, p ∈ switchedPorts s b) (hl : s.link.state ≠ .up) :
    s.settle.link = s.link := by
  have hlink : (switchPorts s b).link = s.link := by rw [switchPorts_frame]
  rw [settle_completes hb h, completeBarrier_link_down _ (by rw [hlink]; exact hl), hlink]

theorem settle_completes_link_room {s : State} {b : Barrier} (hb : s.rules.barrier = some b)
    (h : ∀ p ∈ allPorts, p ∈ switchedPorts s b) (hup : s.link.state = .up)
    (hroom : s.room = true) (hwait : s.link.waiting = []) : s.settle.link =
      { s.link with upQueue := s.link.upQueue
          ++ [{ commitResponse b (nextGen s.rules.gen) with fip := s.fip }] } := by
  have hframe := switchPorts_frame s b
  rw [settle_completes hb h, completeBarrier_link_room _ (by rw [hframe]; exact hup)
    (by rw [hframe]; exact hroom) (by rw [hframe]; exact hwait), hframe]
  rfl

/-- What settling does at the end of a message, in each of its cases. -/
theorem settle_cases (s : State) :
    (s.rules.barrier = none → s.settle = s)
    ∧ (∀ b, s.rules.barrier = some b →
      ((∃ p ∈ allPorts, p ∉ switchedPorts s b) →
        s.settle.rules = { s.rules with barrier := some { b with switched := switchedPorts s b } }
        ∧ s.settle.link = s.link ∧ s.settle.slots = s.slots)
      ∧ ((∀ p ∈ allPorts, p ∈ switchedPorts s b) →
        s.settle.rules = committed s.rules b.newValid
        ∧ (∀ x, NoPrefetch s.settle x)
        ∧ (s.link.state ≠ .up → s.settle.link = s.link))
      ∧ s.settle.orders = s.orders ∧ s.settle.smc = s.smc ∧ s.settle.engines = s.engines
      ∧ s.settle.banks = s.banks) := by
  refine ⟨State.settle_none s, fun b hb => ⟨fun h => ?_, fun h => ?_, ?_⟩⟩
  · exact ⟨settle_waits_rules hb h, settle_waits_link hb h, settle_waits_slots hb h⟩
  · exact ⟨settle_completes_rules hb h, settle_completes_clears hb h,
      settle_completes_link_down hb h⟩
  · rw [State.settle_frame]
    exact ⟨rfl, rfl, rfl, rfl⟩

/-! ## COMMIT_TABLES (R62 to R64) -/

theorem exec_commitTables {s : State} {f : DownFrame} {s1 : State}
    (h : s.Takes (.mgmt .commitTables) f s1) : exec .commitTables s = .next (s1.takeCommit f) := by
  rw [show exec .commitTables s
      = .next (s.takeAs (.mgmt .commitTables) (fun g t => t.takeCommit g)) from rfl,
    State.takeAs_of_takes h]

/-! The three cases of R62 and R63 for a request without fields, taken in RUNNING. -/

theorem takeCommit_pending {s : State} {f : DownFrame} (hp : s.part = .running)
    (hf : f.fields = []) (hb : s.rules.barrier ≠ none) :
    s.takeCommit f = s.answer .commitTables f .barrierPending [] := by
  simp [State.takeCommit, hp, hf, gate, PartState.refusal, Option.isSome_iff_ne_none.2 hb]

theorem takeCommit_fault {s : State} {f : DownFrame} {p : FaultPlace} (hp : s.part = .running)
    (hf : f.fields = []) (hb : s.rules.barrier = none) (hfault : s.rules.pendingImg.fault = some p) :
    s.takeCommit f = s.answer .commitTables f .tableInvalid p.bytes := by
  simp [State.takeCommit, hp, hf, gate, PartState.refusal, hb, hfault]

theorem takeCommit_valid {s : State} {f : DownFrame} (hp : s.part = .running)
    (hf : f.fields = []) (hb : s.rules.barrier = none) (hfault : s.rules.pendingImg.fault = none) :
    s.takeCommit f = s.beginBarrier f := by
  simp [State.takeCommit, hp, hf, gate, PartState.refusal, hb, hfault]

/-- The barrier that COMMIT_TABLES begins, before a port has switched. -/
def freshBarrier (f : DownFrame) : Barrier :=
  { switched := [], tag := f.tag, order := f.order, newValid := true }

/-- The part with the pending image frozen and the barrier begun, before a port has switched. -/
def beginFrozen (s : State) (f : DownFrame) : State :=
  { s with rules := { s.rules with
      pendingImg := s.rules.pendingImg.withParity, barrier := some (freshBarrier f) } }

theorem beginBarrier_eq (s : State) (f : DownFrame) :
    s.beginBarrier f = (beginFrozen s f).settle := rfl

theorem portBusy_frozen (s : State) (f : DownFrame) (p : Port) :
    (beginFrozen s f).portBusy p = s.portBusy p := by
  cases p <;> rfl

theorem switchedPorts_frozen (s : State) (f : DownFrame) :
    switchedPorts (beginFrozen s f) (freshBarrier f)
      = allPorts.filter (fun p => !s.portBusy p) := by
  simp [switchedPorts, freshBarrier, portBusy_frozen]

/-- With a port busy, the barrier waits for it. -/
theorem beginBarrier_busy {s : State} {f : DownFrame} (h : ∃ p ∈ allPorts, s.portBusy p = true) :
    (s.beginBarrier f).link = s.link ∧ (s.beginBarrier f).rules = { s.rules with
      pendingImg := s.rules.pendingImg.withParity,
      barrier := some { freshBarrier f with
        switched := allPorts.filter (fun p => !s.portBusy p) } } := by
  have hwait : ∃ p ∈ allPorts, p ∉ switchedPorts (beginFrozen s f) (freshBarrier f) := by
    obtain ⟨p, hp, hbusy⟩ := h
    exact ⟨p, hp, by simp [switchedPorts_frozen, hbusy]⟩
  rw [beginBarrier_eq, settle_waits_link rfl hwait, settle_waits_rules rfl hwait,
    switchedPorts_frozen]
  exact ⟨rfl, rfl⟩

theorem switchedPorts_frozen_all {s : State} (f : DownFrame)
    (h : ∀ p ∈ allPorts, s.portBusy p = false) :
    ∀ p ∈ allPorts, p ∈ switchedPorts (beginFrozen s f) (freshBarrier f) := by
  intro p hp
  simp [switchedPorts_frozen, hp, h p hp]

/-- With no port busy, the pending image is active at once under the next generation. -/
theorem beginBarrier_free {s : State} {f : DownFrame} (h : ∀ p ∈ allPorts, s.portBusy p = false) :
    (s.beginBarrier f).rules = committed s.rules true ∧ ∀ x, NoPrefetch (s.beginBarrier f) x := by
  have hall := switchedPorts_frozen_all f h
  rw [beginBarrier_eq]
  refine ⟨?_, settle_completes_clears rfl hall⟩
  rw [settle_completes_rules rfl hall]
  simp only [committed, beginFrozen, freshBarrier, withParity_withParity]

/-- Its RESPONSE carries the new generation. -/
theorem beginBarrier_free_link {s : State} {f : DownFrame}
    (h : ∀ p ∈ allPorts, s.portBusy p = false) (hup : s.link.state = .up) (hroom : s.room = true)
    (hwait : s.link.waiting = []) : (s.beginBarrier f).link =
      { s.link with upQueue := s.link.upQueue ++ [{
          chan := 0, kind := .response, order := f.order, fip := s.fip, tag := f.tag,
          payload := [0x00, 0x37, 0] ++ toBytes 2 ((s.rules.gen + 1) % 65536) }] } := by
  rw [beginBarrier_eq, settle_completes_link_room rfl (switchedPorts_frozen_all f h) hup hroom hwait]
  rfl

/-- Settles O41: `settle` by whether a port is left that has not switched, and COMMIT_TABLES by the fault of the pending image and then as `settle` of the frozen image. -/
theorem commitSwitchesAtTheBarrier : Obligations.CommitSwitchesAtTheBarrier := by
  refine ⟨?_, settle_cases⟩
  intro s f s1 ht hp hf hb
  have hexec := exec_commitTables ht
  refine ⟨fun p hfault => ?_, fun hvalid hbusy => ?_, fun hvalid hfree => ?_⟩
  · rw [hexec, takeCommit_fault hp hf hb hfault]
  · obtain ⟨hlink, hrules⟩ := beginBarrier_busy (f := f) hbusy
    exact ⟨s1.beginBarrier f, by rw [hexec, takeCommit_valid hp hf hb hvalid], hlink, hrules⟩
  · obtain ⟨hrules, hclear⟩ := beginBarrier_free (f := f) hfree
    exact ⟨s1.beginBarrier f, by rw [hexec, takeCommit_valid hp hf hb hvalid], hrules, hclear,
      beginBarrier_free_link hfree⟩

end Sys2Proof.Proofs.TrafficRules
end

section
/-! The numbers that the layouts carry (R202, R203): what is written in w bytes is read back, as a number of w bytes, a byte or a signed byte. -/

namespace Sys2Proof.Proofs.TrafficRules

open Sys2Proof.Machine

/-- Reading digits on from a number already read. -/
theorem foldl_toBytes (w : Nat) : ∀ acc n, (toBytes w n).foldl (fun a b => a * 256 + b.toNat) acc
    = acc * 256 ^ w + n % 256 ^ w := by
  induction w with
  | zero => intro acc n; simp [toBytes, Nat.mod_one]
  | succ w ih =>
    intro acc n
    have hsplit : n % 256 ^ (w + 1) = n / 256 ^ w % 256 * 256 ^ w + n % 256 ^ w := by
      rw [Nat.pow_succ, Nat.mod_mul, Nat.mul_comm, Nat.add_comm]
    have hacc : acc * 256 * 256 ^ w = acc * 256 ^ (w + 1) := by
      rw [Nat.pow_succ, Nat.mul_assoc, Nat.mul_comm 256]
    have hdigit : (BitVec.ofNat 8 (n / 256 ^ w)).toNat = n / 256 ^ w % 256 := BitVec.toNat_ofNat _ _
    rw [toBytes, List.foldl_cons, ih, hdigit, Nat.add_mul, hacc, hsplit, Nat.add_assoc]

theorem beNat_toBytes {w n : Nat} (h : n < 256 ^ w) : beNat (toBytes w n) = n := by
  rw [beNat, foldl_toBytes, Nat.zero_mul, Nat.zero_add, Nat.mod_eq_of_lt h]

theorem toNat_byte {n : Nat} (h : n < 256) : (BitVec.ofNat 8 n).toNat = n := by
  rw [BitVec.toNat_ofNat, Nat.mod_eq_of_lt h]

theorem signedByte_ofInt {x : Int} (hl : -128 ≤ x) (hu : x < 128) :
    signedByte (BitVec.ofInt 8 x) = x := by
  rw [signedByte, BitVec.toInt_ofInt]
  exact Int.bmod_eq_of_le (by omega) (by omega)

theorem word16_toBytes (c : Word16) : BitVec.ofNat 16 (beNat (toBytes 2 c.toNat)) = c := by
  rw [beNat_toBytes c.isLt, BitVec.ofNat_toNat, BitVec.setWidth_eq]

/-! ## The records of the LOAD requests (R58, R59, R206) -/

theorem ruleEntryOf_bytes {e : RuleEntry} (h : e.fits = true) : ruleEntryOf e.bytes = some e := by
  simp only [RuleEntry.fits, Bool.and_eq_true, decide_eq_true_eq] at h
  obtain ⟨⟨⟨⟨⟨⟨⟨⟨hd, hp⟩, hr⟩, ha⟩, hk⟩, ho⟩, hw⟩, hf⟩, hgood⟩ := h
  have hread : ruleEntryOf e.bytes = some {
      direction := (BitVec.ofNat 8 e.direction).toNat, portClass := (BitVec.ofNat 8 e.portClass).toNat,
      requestKind := (BitVec.ofNat 8 e.requestKind).toNat, action := (BitVec.ofNat 8 e.action).toNat,
      code := BitVec.ofNat 16 (beNat (toBytes 2 e.code.toNat)),
      mask := BitVec.ofNat 16 (beNat (toBytes 2 e.mask.toNat)),
      payClass := (BitVec.ofNat 8 e.payClass).toNat, amtOffset := (BitVec.ofNat 8 e.amtOffset).toNat,
      amtWidth := (BitVec.ofNat 8 e.amtWidth).toNat, amtFormat := (BitVec.ofNat 8 e.amtFormat).toNat,
      good := true } := rfl
  rw [hread, word16_toBytes, word16_toBytes, toNat_byte hd, toNat_byte hp, toNat_byte hr,
    toNat_byte ha, toNat_byte hk, toNat_byte ho, toNat_byte hw, toNat_byte hf, ← hgood]

theorem ruleEntriesOf_bytes (es : List RuleEntry) (h : ∀ e ∈ es, e.fits = true) :
    ruleEntriesOf es.length (es.map RuleEntry.bytes).flatten = some es := by
  induction es with
  | nil => rfl
  | cons e es ih =>
    obtain ⟨he, hes⟩ := List.forall_mem_cons.1 h
    have hlen : e.bytes.length = 12 := rfl
    simp only [List.map_cons, List.flatten_cons, List.length_cons, ruleEntriesOf,
      List.take_left' hlen, List.drop_left' hlen, ruleEntryOf_bytes he, ih hes]

theorem pricesOf_bytes (ps : List Price) (h : ∀ p ∈ ps, p.unit < 16777216 ∧ p.media < 256) :
    pricesOf ps.length (ps.map Price.bytes).flatten = some ps := by
  induction ps with
  | nil => rfl
  | cons p ps ih =>
    obtain ⟨⟨hu, hm⟩, hps⟩ := List.forall_mem_cons.1 h
    have hread : pricesOf (ps.length + 1) (p.bytes ++ (ps.map Price.bytes).flatten) =
        match pricesOf ps.length (ps.map Price.bytes).flatten with
        | some qs => some ({ unit := beNat (toBytes 3 p.unit),
                             media := (BitVec.ofNat 8 p.media).toNat } :: qs)
        | none => none := rfl
    rw [List.map_cons, List.flatten_cons, List.length_cons, hread, ih hps, beNat_toBytes hu,
      toNat_byte hm]

theorem payProfileOf_bytes {p : PayProfile} (hb : p.baud < 16777216) (hk : p.framing < 256)
    (hlo : p.lenOffset < 256) (hlw : p.lenWidth < 256) (hal : -128 ≤ p.lenAdjust)
    (hau : p.lenAdjust < 128) (htr : p.trailing < 256) (hco : p.codeOffset < 256)
    (hcw : p.codeWidth < 256) (ht : p.timeout < 65536) : payProfileOf p.bytes = some p := by
  have hread : payProfileOf p.bytes = some {
      baud := beNat (toBytes 3 p.baud), framing := (BitVec.ofNat 8 p.framing).toNat,
      lenOffset := (BitVec.ofNat 8 p.lenOffset).toNat,
      lenWidth := (BitVec.ofNat 8 p.lenWidth).toNat,
      lenAdjust := signedByte (BitVec.ofInt 8 p.lenAdjust), startByte := p.startByte,
      endByte := p.endByte, trailing := (BitVec.ofNat 8 p.trailing).toNat,
      codeOffset := (BitVec.ofNat 8 p.codeOffset).toNat,
      codeWidth := (BitVec.ofNat 8 p.codeWidth).toNat, timeout := beNat (toBytes 2 p.timeout) } := rfl
  rw [hread, beNat_toBytes hb, toNat_byte hk, toNat_byte hlo, toNat_byte hlw,
    signedByte_ofInt hal hau, toNat_byte htr, toNat_byte hco, toNat_byte hcw, beNat_toBytes ht]

end Sys2Proof.Proofs.TrafficRules
end

section
/-! The LOAD requests and DISCARD_PENDING (R58 to R60, R64): each is an edit of the pending image, answered OK, and refused BARRIER_PENDING while a barrier is in progress. -/

namespace Sys2Proof.Proofs.TrafficRules

open Sys2Proof.Machine

/-! ## Taking an edit request -/

/-- A request that is taken acts by its rule and is answered with its status and results. -/
theorem takeMgmt_taken {s : State} {r : MgmtReq} {f : DownFrame} {s1 : State}
    (ht : s.Takes (.mgmt r) f s1) (hg : gate r s1.part = none) (k : State → DownFrame → Reply) :
    s.takeMgmt r k = (k s1 f).st.answer r f (k s1 f).status (k s1 f).results := by
  rw [State.takeMgmt, State.takeAs_of_takes ht, hg]

/-- Without a barrier an edit is made and answered OK. -/
theorem takeMgmt_edits {s : State} {r : MgmtReq} {f : DownFrame} {s1 : State}
    {k : State → DownFrame → Reply} {edit : Image → Image} {results : Bytes}
    (ht : s.Takes (.mgmt r) f s1) (hp : s1.part = .running) (hg : gate r .running = none)
    (hb : s1.rules.barrier = none) (hk : k s1 f = editReply s1 edit results) :
    s.takeMgmt r k = (({ s1 with rules := { s1.rules with
      pendingImg := edit s1.rules.pendingImg } } : State).answer r f .ok results) := by
  rw [takeMgmt_taken ht (hp ▸ hg), hk, editReply, hb]
  rfl

/-- During a barrier it is refused and nothing changes. -/
theorem takeMgmt_edit_refused {s : State} {r : MgmtReq} {f : DownFrame} {s1 : State}
    {k : State → DownFrame → Reply} {edit : Image → Image} {results : Bytes}
    (ht : s.Takes (.mgmt r) f s1) (hp : s1.part = .running) (hg : gate r .running = none)
    (hb : s1.rules.barrier ≠ none) (hk : k s1 f = editReply s1 edit results) :
    s.takeMgmt r k = s1.answer r f .barrierPending [] := by
  rw [takeMgmt_taken ht (hp ▸ hg), hk, editReply,
    if_pos (Option.isSome_iff_ne_none.2 hb)]
  rfl

/-! ## LOAD_RULES (R58) -/

/-- The list with its entries written, before it is cut to the new length. -/
theorem length_written (old es : List RuleEntry) {first : Nat} (h : first ≤ old.length) :
    (old.take first ++ es ++ old.drop (first + es.length)).length
      = max old.length (first + es.length) := by
  simp only [List.length_append, List.length_take, List.length_drop]
  omega

theorem length_loadRules {old es : List RuleEntry} {first newLen : Nat} (h : first ≤ old.length)
    (hl : newLen ≤ max old.length (first + es.length)) :
    (loadRules old first newLen es).length = newLen := by
  rw [loadRules, List.length_take, length_written old es h, Nat.min_eq_left hl]

/-- An entry after LOAD_RULES: the written one inside the range, the old one outside. -/
theorem getElem_loadRules {old es : List RuleEntry} {first newLen i : Nat} (h : first ≤ old.length)
    (hi : i < newLen) : (loadRules old first newLen es)[i]? =
      if first ≤ i ∧ i < first + es.length then es[i - first]? else old[i]? := by
  have hlen : (old.take first).length = first := by simp [h]
  rw [loadRules, List.getElem?_take_of_lt hi, List.append_assoc]
  by_cases hlo : i < first
  · rw [List.getElem?_append_left (by omega), List.getElem?_take_of_lt hlo, if_neg (by omega)]
  · rw [List.getElem?_append_right (by omega), hlen]
    by_cases hhi : i < first + es.length
    · rw [List.getElem?_append_left (by omega), if_pos ⟨Nat.not_lt.1 hlo, hhi⟩]
    · rw [List.getElem?_append_right (by omega), List.getElem?_drop, if_neg (by omega)]
      congr 1
      omega

/-- A payload of LOAD_RULES that keeps the bounds of R58 is read as it was written. -/
theorem loadRulesFields_bytes {len first newLen : Nat} {es : List RuleEntry}
    (he : ∀ e ∈ es, e.fits = true) (hc : es.length ≤ 64) (hlast : first + es.length ≤ 128)
    (hfirst : first ≤ len) (hnew : newLen ≤ max len (first + es.length)) (hl : newLen ≤ 128) :
    loadRulesFields len (b1 first ++ b1 es.length ++ b1 newLen ++ (es.map RuleEntry.bytes).flatten)
      = some (first, newLen, es) := by
  have hi := toNat_byte (show first < 256 by omega)
  have hn := toNat_byte (show es.length < 256 by omega)
  have hw := toNat_byte (show newLen < 256 by omega)
  simp only [b1, List.cons_append, List.nil_append, loadRulesFields, hi, hn, hw,
    ruleEntriesOf_bytes es he]
  exact if_pos ⟨hc, hlast, hfirst, hnew⟩

/-- LOAD_RULES of a sound payload writes its entries into the pending list (R58). -/
theorem loadRules_edits {s : State} {f : DownFrame} {s1 : State} {first newLen : Nat}
    {es : List RuleEntry} (ht : s.Takes (.mgmt .loadRules) f s1) (hp : s1.part = .running)
    (hb : s1.rules.barrier = none) (he : ∀ e ∈ es, e.fits = true) (hc : es.length ≤ 64)
    (hlast : first + es.length ≤ 128) (hfirst : first ≤ s1.rules.pendingImg.rules.length)
    (hnew : newLen ≤ max s1.rules.pendingImg.rules.length (first + es.length)) (hl : newLen ≤ 128)
    (hf : f.fields = b1 first ++ b1 es.length ++ b1 newLen ++ (es.map RuleEntry.bytes).flatten) :
    exec .loadRules s = .next (({ s1 with rules := { s1.rules with pendingImg :=
      { s1.rules.pendingImg with rules := loadRules s1.rules.pendingImg.rules first newLen es } } } :
        State).answer .loadRules f .ok (b1 newLen)) := by
  have hreply : loadRulesReply s1 f = editReply s1
      (fun im => { im with rules := loadRules im.rules first newLen es }) (b1 newLen) := by
    simp only [loadRulesReply, hf, loadRulesFields_bytes he hc hlast hfirst hnew hl,
      length_loadRules hfirst hnew]
  exact congrArg Host.Outcome.next (takeMgmt_edits ht hp rfl hb hreply)

/-! ## LOAD_PRICES (R59) -/

/-- The classes in the range are replaced, the others stay. -/
theorem setPrices_eq (v : Vector Price 16) (first : Nat) (ps : List Price) :
    setPrices v first ps = Vector.ofFn (fun i =>
      if h : first ≤ i.val ∧ i.val - first < ps.length then ps[i.val - first]'h.2 else v.get i) := by
  unfold setPrices
  congr 1
  funext i
  by_cases hlo : first ≤ i.val
  · by_cases hhi : i.val - first < ps.length
    · rw [if_pos hlo, dif_pos ⟨hlo, hhi⟩, List.getElem?_eq_getElem hhi, Option.getD_some]
    · rw [if_pos hlo, dif_neg (fun h => hhi h.2), List.getElem?_eq_none (Nat.not_lt.1 hhi),
        Option.getD_none]
  · rw [if_neg hlo, dif_neg (fun h => hlo h.1)]

theorem loadPricesReply_bytes {s : State} {f : DownFrame} {first : Nat} {ps : List Price}
    (hne : 1 ≤ ps.length) (hlast : first + ps.length ≤ 16)
    (hps : ∀ p ∈ ps, p.unit < 16777216 ∧ p.media < 256)
    (hf : f.fields = b1 first ++ b1 ps.length ++ (ps.map Price.bytes).flatten) :
    loadPricesReply s f
      = editReply s (fun im => { im with prices := setPrices im.prices first ps }) [] := by
  have hi := toNat_byte (show first < 256 by omega)
  have hn := toNat_byte (show ps.length < 256 by omega)
  simp only [loadPricesReply, hf, b1, List.cons_append, List.nil_append, hi, hn,
    pricesOf_bytes ps hps]
  exact if_pos ⟨by omega, hne, hlast⟩

/-! ## The profiles (R59) -/

/-- A payload of LOAD_SLOT_PROFILE is sound whatever its values; within the widths of the fields they are the profile's. -/
theorem loadSlotProfileReply_bytes {f : DownFrame} {x : Slot} {p : SlotProfile}
    (hf : f.fields = b1 (slotNo x).val ++ p.bytes) : ∃ stored : SlotProfile,
      (∀ s, loadSlotProfileReply s f = editReply s
        (fun im => { im with slots := im.slots.set (slotNo x).val stored }) [])
      ∧ (p.divider < 256 → p.response < 65536 → p.block < 65536 → p.depth < 256 → stored = p) := by
  refine ⟨{ divider := (BitVec.ofNat 8 p.divider).toNat, response := beNat (toBytes 2 p.response),
            block := beNat (toBytes 2 p.block), depth := (BitVec.ofNat 8 p.depth).toNat }, ?_, ?_⟩
  · intro s
    have hslot : slotOf (BitVec.ofNat 8 (slotNo x).val).toNat = some x := by cases x <;> rfl
    simp only [loadSlotProfileReply, hf, b1, SlotProfile.bytes, toBytes, List.cons_append,
      List.nil_append, hslot]
  · intro hd hr hb hdep
    rw [toNat_byte hd, toNat_byte hdep, beNat_toBytes hr, beNat_toBytes hb]

theorem loadEngineProfileReply_bytes {s : State} {f : DownFrame} {e : EngineNo} {p : EngineProfile}
    (hr : p.response < 256) (hpg : p.page < 65536)
    (hf : f.fields = b1 (engineNum e) ++ p.bytes) : loadEngineProfileReply s f = editReply s
      (fun im => { im with engines := im.engines.set (engineIdx e).val p }) [] := by
  have hengine : engineOf (BitVec.ofNat 8 (engineNum e)).toNat = some e := by cases e <;> rfl
  have hresponse := toNat_byte hr
  have hpage : beNat [BitVec.ofNat 8 (p.page / 256 ^ 1), BitVec.ofNat 8 (p.page / 256 ^ 0)] = p.page :=
    beNat_toBytes (w := 2) hpg
  simp only [loadEngineProfileReply, hf, b1, EngineProfile.bytes, toBytes, List.cons_append,
    List.nil_append, hengine, hresponse, hpage]

/-! ## DISCARD_PENDING (R60) -/

/-- Without fields the rule is an edit that takes the active image with good parity. -/
theorem discardPendingReply_empty (s : State) {f : DownFrame} (hf : f.fields = []) :
    discardPendingReply s f = editReply s (fun _ => s.rules.active.withParity) [] := by
  simp only [discardPendingReply, noFields, hf]

/-- Settles O39: each request's payload is read as it was written, so its rule is an edit of the pending image; what an edit does, with and without a barrier, is one lemma for all of them. -/
theorem loadRequestsEditThePendingImage : Obligations.LoadRequestsEditThePendingImage := by
  refine ⟨?_, ?_, ?_⟩
  · intro s f s1 first newLen es ht hp hb he hc old hlast hfirst hnew hl hf
    exact ⟨loadRules old first newLen es, length_loadRules hfirst hnew,
      fun i hi => getElem_loadRules hfirst hi,
      loadRules_edits ht hp hb he hc hlast hfirst hnew hl hf⟩
  · intro s f s1 hp hb edited im
    refine ⟨?_, ?_, ?_, ?_, ?_⟩
    · intro first ps ht hne hlast hps hf
      have h := takeMgmt_edits ht hp rfl hb (loadPricesReply_bytes hne hlast hps hf)
      rw [setPrices_eq] at h
      exact congrArg Host.Outcome.next h
    · intro x p ht hd hr hbl hdep hf
      obtain ⟨stored, hreply, hstored⟩ := loadSlotProfileReply_bytes hf
      have h := takeMgmt_edits ht hp rfl hb (hreply s1)
      rw [hstored hd hr hbl hdep] at h
      exact congrArg Host.Outcome.next h
    · intro e p ht hr hpg hf
      exact congrArg Host.Outcome.next
        (takeMgmt_edits ht hp rfl hb (loadEngineProfileReply_bytes hr hpg hf))
    · intro p ht hba hk hlo hlw hal hau htr hco hcw hto hf
      have hread := payProfileOf_bytes hba hk hlo hlw hal hau htr hco hcw hto
      have hreply : loadPaymentProfileReply s1 f
          = editReply s1 (fun im => { im with pay := p }) [] := by
        simp only [loadPaymentProfileReply, hf, hread]
      exact congrArg Host.Outcome.next (takeMgmt_edits ht hp rfl hb hreply)
    · intro ht hf
      exact congrArg Host.Outcome.next
        (takeMgmt_edits ht hp rfl hb (discardPendingReply_empty s1 hf))
  · intro s f s1 hp hb
    refine ⟨?_, ?_, ?_⟩
    · intro ht hf
      rw [exec_commitTables ht, takeCommit_pending hp hf hb]
    · intro ht hf
      exact congrArg Host.Outcome.next
        (takeMgmt_edit_refused ht hp rfl hb (discardPendingReply_empty s1 hf))
    · intro x p ht hf
      obtain ⟨stored, hreply, -⟩ := loadSlotProfileReply_bytes hf
      exact congrArg Host.Outcome.next (takeMgmt_edit_refused ht hp rfl hb (hreply s1))

end Sys2Proof.Proofs.TrafficRules
end

section
/-! The item requests (R113 to R115, R124, R125): what the rule of each answers, and the change of the print list it makes. -/

namespace Sys2Proof.Proofs.PrintItems

open Sys2Proof.Machine

/-! ## The print list -/

theorem modify_eq_set {α : Type} {l : List α} {i : Nat} {a : α} (h : l[i]? = some a) (f : α → α) :
    l.modify i f = l.set i (f a) := by
  obtain ⟨hi, rfl⟩ := List.getElem?_eq_some_iff.1 h
  apply List.ext_getElem?
  intro j
  rw [List.getElem?_modify, List.getElem?_set]
  by_cases hj : i = j
  · subst hj
    simp only [if_true, hi, List.getElem?_eq_getElem, Option.map_eq_map, Option.map_some]
  · simp only [hj, if_false, id_map']

/-- A change of an order leaves the record that the change gives, but for the short-notice flag (R119). -/
theorem order_updOrder_eq (s : State) (n : OrderNo) (g : Order → Order) :
    (s.updOrder n g).order n
      = { g (s.order n) with shortArmed := ((s.updOrder n g).order n).shortArmed } := by
  rw [State.order_updOrder_self]
  exact rearm_eq _ _

/-- A change of one item sets its place in the print list. -/
theorem order_updItem_eq {s : State} {n : OrderNo} {i : Nat} {it : Item}
    (h : (s.order n).items[i]? = some it) (g : Item → Item) :
    (s.updItem n i g).order n = { s.order n with
      items := (s.order n).items.set i (g it),
      shortArmed := ((s.updItem n i g).order n).shortArmed } := by
  rw [← modify_eq_set h g]
  exact order_updOrder_eq _ _ _

/-! ## The references in the engine queues -/

/-- A dropped reference leaves each engine's queue. -/
theorem eng_dropRef (s : State) (r : ItemRef) (e : EngineNo) :
    (s.dropRef r).eng e = { s.eng e with queue := (s.eng e).queue.erase r } :=
  Vector.getElem_map _ _

/-! ## The rules of the three requests -/

/-- An order that is in use passes step 3 of R2. -/
theorem withOrder_of_live {s : State} {f : DownFrame} {n : OrderNo} (hn : orderOfByte f.order = some n)
    (hl : (s.order n).live = true) (k : OrderNo → Reply) : withOrder s f k = k n := by
  have hused : (s.order n).state ≠ .free := fun h => by simp [Order.live, h] at hl
  rw [withOrder, hn]
  exact if_neg hused

theorem submitReply_orderState {s : State} {n : OrderNo} (q : SubmitFields)
    (h : (s.order n).state ≠ .open_) : submitReply s n q = .no s .orderState :=
  if_pos h

theorem submitReply_itemLimit {s : State} {n : OrderNo} (q : SubmitFields)
    (h : (s.order n).state = .open_) (hlen : 32 ≤ (s.order n).items.length) :
    submitReply s n q = .no s .itemLimit :=
  (if_neg (not_not_intro h)).trans (if_pos hlen)

/-- The first byte after the image of an item (R114). -/
theorem lastByte_eq (q : SubmitFields) (p : Price) :
    (q.item p).offset + (q.item p).extentBytes = q.offset + q.skip + q.width * 3 * q.rows :=
  (Nat.add_assoc _ _ _).symm

/-- An open order whose list has room: the window decides. -/
theorem submitReply_of_room {s : State} {n : OrderNo} (q : SubmitFields)
    (h : (s.order n).state = .open_) (hlen : (s.order n).items.length < 32) :
    let p := s.rules.active.prices.get q.cls
    submitReply s n q =
      if (s.order n).map.length * 65536 < q.offset + q.skip + q.width * 3 * q.rows then
        .no s .outOfWindow
      else .yes (s.updOrder n (fun o => { o with items := o.items ++ [q.item p] }))
        (b1 (s.order n).items.length ++ toBytes 3 p.unit ++ b1 p.media) := by
  have hroom : ¬ Config.itemLimit ≤ (s.order n).items.length := Nat.not_le.2 hlen
  unfold submitReply
  rw [if_neg (not_not_intro h), if_neg hroom, lastByte_eq]
  rfl

theorem resumeReply_held {s : State} {n : OrderNo} {i : Nat} {it : Item}
    (h : (s.order n).state = .open_) (hit : (s.order n).items[i]? = some it)
    (hheld : it.state = .held) :
    resumeReply s n i = .yes (s.updItem n i (fun it => { it with state := .pending })) [] := by
  simp [resumeReply, h, hit, hheld]

/-- An item that is not HELD, or no item at the index. -/
theorem resumeReply_itemState {s : State} {n : OrderNo} {i : Nat} (h : (s.order n).state = .open_)
    (hno : ∀ it, (s.order n).items[i]? = some it → it.state ≠ .held) :
    resumeReply s n i = .no s .itemState := by
  cases hit : (s.order n).items[i]? with
  | none => simp [resumeReply, h, hit]
  | some it => simp [resumeReply, h, hit, hno it hit]

theorem withdrawable_iff (it : Item) :
    it.withdrawable = true ↔ it.state ∈ [.pending, .held, .queued] := by
  simp [Item.withdrawable, or_assoc]

/-- The state that a withdrawal leaves. -/
def withdrawn (s : State) (n : OrderNo) (i : Nat) : State :=
  (s.dropRef { order := n, item := i }).updItem n i Item.withdraw

theorem withdrawReply_withdraws {s : State} {n : OrderNo} {i : Nat} {it : Item}
    (hl : (s.order n).live = true) (hit : (s.order n).items[i]? = some it)
    (hw : it.state ∈ [.pending, .held, .queued]) :
    withdrawReply s n i = .yes (withdrawn s n i) (b1 it.state.code) := by
  simp [withdrawReply, withdrawn, hl, hit, (withdrawable_iff it).2 hw]

/-- An item in another state, or no item at the index. -/
theorem withdrawReply_itemState {s : State} {n : OrderNo} {i : Nat} (hl : (s.order n).live = true)
    (hno : ∀ it, (s.order n).items[i]? = some it → it.state ∉ [.pending, .held, .queued]) :
    withdrawReply s n i = .no s .itemState := by
  cases hit : (s.order n).items[i]? with
  | none => simp [withdrawReply, hl, hit]
  | some it =>
    have hw : it.withdrawable = false :=
      Bool.eq_false_iff.2 (fun h => hno it hit ((withdrawable_iff it).1 h))
    simp [withdrawReply, hl, hit, hw]

/-- The item withdrawn is WITHDRAWN; the rest of the order keeps its values, but for the short-notice flag. -/
theorem order_withdrawn {s : State} {n : OrderNo} {i : Nat} {it : Item}
    (hit : (s.order n).items[i]? = some it) (hw : it.state ∈ [.pending, .held, .queued]) :
    (withdrawn s n i).order n = { s.order n with
      items := (s.order n).items.set i { it with state := .withdrawn },
      shortArmed := ((withdrawn s n i).order n).shortArmed } := by
  have hset : it.withdraw = { it with state := .withdrawn } := if_pos ((withdrawable_iff it).2 hw)
  rw [← hset]
  exact order_updItem_eq (s := s.dropRef { order := n, item := i }) hit Item.withdraw

/-! ## The commands -/

/-- The part when the answer of a rule has been sent. -/
def answered (r : MgmtReq) (f : DownFrame) (a : Reply) : State :=
  a.st.answer r f a.status a.results

/-- A command that takes its request in RUNNING answers as the request's rule does. -/
theorem exec_eq_answered {c : Instr} {r : MgmtReq} {rule : State → DownFrame → Reply} {s : State}
    {f : DownFrame} {s1 : State} {a : Reply} (hc : exec c s = .next (s.takeMgmt r rule))
    (ht : s.Takes (.mgmt r) f s1) (hg : gate r .running = none) (hp : s1.part = .running)
    (hrule : rule s1 f = a) : exec c s = .next (answered r f a) := by
  rw [hc, TrafficRules.takeMgmt_taken ht (hp ▸ hg), hrule]
  rfl

theorem submitItemReply_of_live {s : State} {f : DownFrame} {n : OrderNo} {q : SubmitFields}
    (hn : orderOfByte f.order = some n) (hl : (s.order n).live = true)
    (hq : submitFields f.fields = some q) : submitItemReply s f = submitReply s n q := by
  rw [submitItemReply, hq]
  exact withOrder_of_live hn hl _

theorem resumeItemReply_of_live {s : State} {f : DownFrame} {n : OrderNo} {b : Byte}
    (hn : orderOfByte f.order = some n) (hl : (s.order n).live = true) (hb : f.fields = [b]) :
    resumeItemReply s f = resumeReply s n b.toNat := by
  rw [resumeItemReply, hb]
  exact withOrder_of_live hn hl _

theorem withdrawItemReply_of_live {s : State} {f : DownFrame} {n : OrderNo} {b : Byte}
    (hn : orderOfByte f.order = some n) (hl : (s.order n).live = true) (hb : f.fields = [b]) :
    withdrawItemReply s f = withdrawReply s n b.toNat := by
  rw [withdrawItemReply, hb]
  exact withOrder_of_live hn hl _

/-- Settles O43: each command answers as its rule does, and the rule is told apart by the order's state, the length of the list and the window, or by the state of the item at the index. -/
theorem itemRequestsActOnThePrintList : Obligations.ItemRequestsActOnThePrintList := by
  intro s f s1 n hp hn hl o
  refine ⟨?submit, ?resume, ?withdraw⟩
  case submit =>
    intro q ht hq p it last
    have hexec := exec_eq_answered (c := .submitItem) rfl ht rfl hp
      (submitItemReply_of_live hn hl hq)
    refine ⟨fun h => ?_, fun h hlen => ?_, fun h hlen hwin => ?_, fun h hlen hwin => ?_⟩
    · rw [hexec, submitReply_orderState q h]
      rfl
    · rw [hexec, submitReply_itemLimit q h hlen]
      rfl
    · rw [hexec, submitReply_of_room q h hlen, if_pos hwin]
      rfl
    · refine ⟨s1.updOrder n (fun o => { o with items := o.items ++ [it] }), rfl,
        fun m hm => State.order_updOrder_ne s1 _ hm, order_updOrder_eq s1 n _, ?_⟩
      rw [hexec, submitReply_of_room q h hlen, if_neg (Nat.not_lt.2 hwin)]
      rfl
  case resume =>
    intro b ht hb h
    have hexec := exec_eq_answered (c := .resumeItem) rfl ht rfl hp
      (resumeItemReply_of_live hn hl hb)
    refine ⟨fun it hit hheld => ?_, fun hno => ?_⟩
    · refine ⟨s1.updItem n b.toNat (fun it => { it with state := .pending }), rfl,
        fun m hm => State.order_updOrder_ne s1 _ hm, order_updItem_eq hit _, ?_⟩
      rw [hexec, resumeReply_held h hit hheld]
      rfl
    · rw [hexec, resumeReply_itemState h hno]
      rfl
  case withdraw =>
    intro b ht hb
    have hexec := exec_eq_answered (c := .withdrawItem) rfl ht rfl hp
      (withdrawItemReply_of_live hn hl hb)
    refine ⟨fun it hit hw => ?_, fun hno => ?_⟩
    · refine ⟨withdrawn s1 n b.toNat, rfl, fun m hm => State.order_updOrder_ne _ _ hm,
        order_withdrawn hit hw, eng_dropRef s1 _, ?_⟩
      rw [hexec, withdrawReply_withdraws hl hit hw]
      rfl
    · rw [hexec, withdrawReply_itemState hl hno]
      rfl

end Sys2Proof.Proofs.PrintItems
end

section
/-! The Print Scheduler (R117 to R121): the tests of the gate, the engine chosen, and the search, which passes over the orders that wait until one has a candidate to queue or to report short. -/

namespace Sys2Proof.Proofs.PrintItems

open Sys2Proof.Machine

/-! ## The engine chosen (R118) -/

theorem names_iff (c : EngineChoice) (e : EngineNo) :
    c.names e = true ↔ c = .either ∨ c = .only e := by
  cases c <;> simp [EngineChoice.names]

theorem eligible_iff (s : State) (it : Item) (e : EngineNo) : s.eligible it e = true ↔
    (s.eng e).media = some it.media ∧ (s.eng e).state ≠ .offline ∧ (s.eng e).state ≠ .faulted
      ∧ (s.eng e).queue.length < 8 ∧ (it.choice = .either ∨ it.choice = .only e) := by
  have hroom : decide ((s.eng e).queue.length < Config.queueLimit) = true
      ↔ (s.eng e).queue.length < 8 := decide_eq_true_iff
  simp only [State.eligible, Bool.and_eq_true, beq_iff_eq, bne_iff_ne, hroom, names_iff, and_assoc]

theorem chooseEngine_eq_one_iff (s : State) (it : Item) : s.chooseEngine it = some .one ↔
    s.eligible it .one = true
      ∧ (s.eligible it .two = true → (s.eng .one).queue.length ≤ (s.eng .two).queue.length) := by
  cases h1 : s.eligible it .one <;> cases h2 : s.eligible it .two <;>
    simp [State.chooseEngine, h1, h2]

theorem chooseEngine_eq_two_iff (s : State) (it : Item) : s.chooseEngine it = some .two ↔
    s.eligible it .two = true
      ∧ (s.eligible it .one = true → (s.eng .two).queue.length < (s.eng .one).queue.length) := by
  cases h1 : s.eligible it .one <;> cases h2 : s.eligible it .two <;>
    simp [State.chooseEngine, h1, h2]

/-! ## The tests of the gate (R117) -/

/-- Tests 1 and 2: the order is OPEN and its pay state lets it print. -/
def Admitted (o : Order) : Prop :=
  o.state = .open_ ∧ o.pay.state ∈ [.none_, .declined, .authorised]

theorem prints_iff (p : PayState) : p.prints = true ↔ p ∈ [.none_, .declined, .authorised] := by
  cases p <;> decide

theorem test_of_not_admitted {s : State} {n : OrderNo} (it : Item) (h : ¬ Admitted (s.order n)) :
    s.test n it = .wait := by
  by_cases ho : (s.order n).state = .open_
  · have hp : (s.order n).pay.state.prints = false :=
      Bool.eq_false_iff.2 (fun hp => h ⟨ho, (prints_iff _).1 hp⟩)
    simp [State.test, ho, hp]
  · simp [State.test, ho]

theorem test_of_short {s : State} {n : OrderNo} {it : Item} (h : Admitted (s.order n))
    (hlt : (s.order n).effective < (s.order n).needed it) : s.test n it = .short := by
  obtain ⟨ho, hp⟩ := h
  simp [State.test, ho, (prints_iff _).2 hp, hlt]

/-- Past test 3 the engines decide. -/
theorem test_of_credit {s : State} {n : OrderNo} {it : Item} (h : Admitted (s.order n))
    (hle : (s.order n).needed it ≤ (s.order n).effective) :
    s.test n it = (s.chooseEngine it).elim .wait .pass := by
  obtain ⟨ho, hp⟩ := h
  cases hc : s.chooseEngine it <;>
    simp [State.test, ho, (prints_iff _).2 hp, Nat.not_lt.2 hle, hc]

theorem test_eq_short_iff (s : State) (n : OrderNo) (it : Item) : s.test n it = .short ↔
    Admitted (s.order n) ∧ (s.order n).effective < (s.order n).needed it := by
  by_cases h : Admitted (s.order n)
  · by_cases hlt : (s.order n).effective < (s.order n).needed it
    · simp [test_of_short h hlt, h, hlt]
    · rw [test_of_credit h (Nat.not_lt.1 hlt)]
      cases hc : s.chooseEngine it <;> simp [hlt]
  · simp [test_of_not_admitted it h, h]

theorem test_eq_pass_iff (s : State) (n : OrderNo) (it : Item) (e : EngineNo) :
    s.test n it = .pass e ↔ Admitted (s.order n)
      ∧ (s.order n).needed it ≤ (s.order n).effective ∧ s.chooseEngine it = some e := by
  by_cases h : Admitted (s.order n)
  · by_cases hle : (s.order n).needed it ≤ (s.order n).effective
    · rw [test_of_credit h hle]
      cases hc : s.chooseEngine it <;> simp [h, hle]
    · simp [test_of_short h (Nat.not_le.1 hle), hle]
  · simp [test_of_not_admitted it h, h]

theorem chooseEngine_congr {s t : State} (it : Item) (he : t.engines = s.engines) :
    t.chooseEngine it = s.chooseEngine it := by
  unfold State.chooseEngine State.eligible State.eng
  rw [he]

/-- The tests read the engines and the order's own record, and of that not the short-notice flag. -/
theorem test_congr {s t : State} {n : OrderNo} {armed : Bool} (it : Item)
    (ho : t.order n = { s.order n with shortArmed := armed }) (he : t.engines = s.engines) :
    t.test n it = s.test n it := by
  unfold State.test
  rw [ho, chooseEngine_congr it he]
  rfl

/-! ## The search (R119 to R121) -/

/-- A search passes over the order: it has no candidate, or one that waits, or one whose shortage has been reported. -/
def Waits (s : State) (m : OrderNo) : Prop :=
  ∀ j jt, (s.order m).candidate = some j → (s.order m).items[j]? = some jt →
    s.test m jt = .wait ∨ s.test m jt = .short ∧ (s.order m).shortArmed = false

theorem Waits.congr {s t : State} {m : OrderNo} (h : Waits s m) (ho : t.order m = s.order m)
    (he : t.engines = s.engines) : Waits t m := by
  intro j jt hj hjt
  rw [ho] at hj hjt
  rw [test_congr (armed := (s.order m).shortArmed) jt ho he, ho]
  exact h j jt hj hjt

theorem creditShort_of_disarmed {s : State} {n : OrderNo} (i : Nat) (it : Item)
    (h : (s.order n).shortArmed = false) : s.creditShort n i it = s := by
  simp [State.creditShort, h]

theorem searchOrders_cons_waits {s : State} {m : OrderNo} (ms : List OrderNo) (h : Waits s m) :
    s.searchOrders (m :: ms) = s.searchOrders ms := by
  cases hj : (s.order m).candidate with
  | none => simp [State.searchOrders, hj]
  | some j =>
    cases hjt : (s.order m).items[j]? with
    | none => simp [State.searchOrders, hj, hjt]
    | some jt =>
      obtain hwait | ⟨hshort, hdis⟩ := h j jt hj hjt
      · simp [State.searchOrders, hj, hjt, hwait]
      · simp [State.searchOrders, hj, hjt, hshort, creditShort_of_disarmed j jt hdis]

theorem searchOrders_append_waits {s : State} (before rest : List OrderNo)
    (h : ∀ m ∈ before, Waits s m) : s.searchOrders (before ++ rest) = s.searchOrders rest := by
  induction before with
  | nil => rfl
  | cons m ms ih =>
    obtain ⟨hm, hms⟩ := List.forall_mem_cons.1 h
    rw [List.cons_append, searchOrders_cons_waits _ hm, ih hms]

/-- When every order waits, a search changes nothing. -/
theorem searchOrders_waits {s : State} (ns : List OrderNo) (h : ∀ m ∈ ns, Waits s m) :
    s.searchOrders ns = s := by
  simpa [State.searchOrders] using searchOrders_append_waits ns [] h

theorem searchOrders_cons_pass {s : State} {n : OrderNo} {i : Nat} {it : Item} {e : EngineNo}
    (ns : List OrderNo) (hi : (s.order n).candidate = some i)
    (hit : (s.order n).items[i]? = some it) (ht : s.test n it = .pass e) :
    s.searchOrders (n :: ns) = s.queueItem n i e := by
  simp [State.searchOrders, hi, hit, ht]

theorem searchOrders_cons_short {s : State} {n : OrderNo} {i : Nat} {it : Item}
    (ns : List OrderNo) (hi : (s.order n).candidate = some i)
    (hit : (s.order n).items[i]? = some it) (ht : s.test n it = .short) :
    s.searchOrders (n :: ns) = (s.creditShort n i it).searchOrders ns := by
  simp [State.searchOrders, hi, hit, ht]

/-! ## Queuing the candidate (R121) -/

/-- An item set to another state than PENDING is not the candidate. -/
theorem candidate_set_ne {o : Order} {i : Nat} {it : Item} (h : it.state ≠ .pending) :
    ({ o with items := o.items.set i it } : Order).candidate ≠ some i := by
  intro hc
  obtain ⟨hlt, hpend, -⟩ := List.findIdx?_eq_some_iff_getElem.1 hc
  simp [h] at hpend

/-- The candidate joins the engine's queue; it is no longer the candidate, so the short-notice flag is armed. -/
theorem queueItem_eq {s : State} {n : OrderNo} {i : Nat} {it : Item} (e : EngineNo)
    (hi : (s.order n).candidate = some i) (hit : (s.order n).items[i]? = some it) :
    s.queueItem n i e = { s with
      orders := s.orders.set n.val { s.order n with
        items := (s.order n).items.set i { it with state := .queued }, shortArmed := true },
      engines := s.engines.set (engineIdx e).val { s.eng e with
        queue := (s.eng e).queue ++ [{ order := n, item := i }] },
      lastServed := n } := by
  have harmed : rearm (s.order n)
      { s.order n with items := (s.order n).items.set i { it with state := .queued } }
      = { s.order n with items := (s.order n).items.set i { it with state := .queued },
                         shortArmed := true } :=
    if_pos (.inl (fun h => candidate_set_ne (by simp) (h.symm.trans hi)))
  rw [← harmed, ← modify_eq_set hit (fun it => { it with state := .queued })]
  rfl

/-! ## The short candidate (R119) -/

/-- The first shortage of a candidate is reported, and the flag is disarmed. -/
theorem creditShort_of_armed {s : State} {n : OrderNo} (i : Nat) (it : Item)
    (h : (s.order n).shortArmed = true) : s.creditShort n i it =
      { s.raise .creditShort (some n)
          ([orderByte (some n)] ++ b1 i ++ amountBytes ((s.order n).needed it)
            ++ amountBytes (s.order n).effective ++ b1 (s.order n).pay.state.code) with
        orders := s.orders.set n.val { s.order n with shortArmed := false } } := by
  have hkeeps : rearm (s.order n) { s.order n with shortArmed := false }
      = { s.order n with shortArmed := false } := rearm_keeps rfl rfl
  rw [State.creditShort, if_pos h, State.raise_link, ← hkeeps]
  rfl

theorem creditShort_engines (s : State) (n : OrderNo) (i : Nat) (it : Item) :
    (s.creditShort n i it).engines = s.engines := by
  unfold State.creditShort
  split
  · rw [State.updOrder_engines, State.raise_link]
  · rfl

/-- Once its shortage is reported an order waits like those that waited before. -/
theorem waits_creditShort {s : State} {n : OrderNo} {i : Nat} {it : Item}
    (hi : (s.order n).candidate = some i) (hit : (s.order n).items[i]? = some it)
    (ht : s.test n it = .short) (ha : (s.order n).shortArmed = true)
    (hw : ∀ m, m ≠ n → Waits s m) (m : OrderNo) : Waits (s.creditShort n i it) m := by
  have hset : (s.creditShort n i it).orders
      = s.orders.set n.val { s.order n with shortArmed := false } := by
    rw [creditShort_of_armed i it ha]
  have heng := creditShort_engines s n i it
  by_cases hm : m = n
  · subst hm
    have hself : (s.creditShort m i it).order m = { s.order m with shortArmed := false } := by
      rw [State.order, hset]
      exact vec_get_set_self _ _ _
    have hshort : (s.creditShort m i it).test m it = .short :=
      (test_congr it hself heng).trans ht
    intro j jt hj hjt
    rw [hself] at hj hjt
    cases hi.symm.trans hj
    cases hit.symm.trans hjt
    exact .inr ⟨hshort, by rw [hself]⟩
  · refine (hw m hm).congr ?_ heng
    rw [State.order, hset]
    exact vec_get_set_ne _ _ _ _ hm

/-! ## The orders of a search (R120) -/

/-- A search comes to every order. -/
theorem mem_ordersAfter (last n : OrderNo) : n ∈ ordersAfter last := by
  refine List.mem_map.2 ⟨(n.val + 15 - last.val) % 16, List.mem_range.2 (Nat.mod_lt _ (by decide)), ?_⟩
  apply Fin.ext
  simp only [Fin.ofNat]
  omega

/-- A search is made in RUNNING, from the order after the last one served (R120). -/
theorem exec_schedulerSearch {s : State} (hp : s.part = .running) (hr : s.resetLow = false) :
    exec .schedulerSearch s = .next (s.searchOrders (ordersAfter s.lastServed)) :=
  if_pos ⟨hp, by simp [hr]⟩

theorem exec_schedulerSearch_halted {s : State} (hp : s.part = .halted) :
    exec .schedulerSearch s = .next s :=
  if_neg (fun h => by simp [hp] at h)

/-- A candidate newly short is reported; no order is left then that does not wait. -/
theorem searchOrders_short {s : State} {n : OrderNo} {i : Nat} {it : Item} {ns : List OrderNo}
    (hn : n ∈ ns) (hi : (s.order n).candidate = some i) (hit : (s.order n).items[i]? = some it)
    (ht : s.test n it = .short) (ha : (s.order n).shortArmed = true)
    (hw : ∀ m, m ≠ n → Waits s m) : s.searchOrders ns = s.creditShort n i it := by
  obtain ⟨before, after, rfl, hbefore⟩ := List.eq_append_cons_of_mem hn
  rw [searchOrders_append_waits before _ (fun m hm => hw m (fun h => hbefore (h ▸ hm))),
    searchOrders_cons_short after hi hit ht,
    searchOrders_waits after (fun m _ => waits_creditShort hi hit ht ha hw m)]

/-- Settles O44: the gate by its three tests; a search passes over the orders that wait, so the first other one decides. -/
theorem searchQueuesTheFirstPassingCandidate : Obligations.SearchQueuesTheFirstPassingCandidate := by
  refine ⟨?gate, ?search⟩
  case gate =>
    intro s n it o needed effective tests12 eligible q1 q2
    refine ⟨test_eq_short_iff s n it, ?_, ?_⟩
    · rw [test_eq_pass_iff, chooseEngine_eq_one_iff, eligible_iff, eligible_iff]
      exact Iff.rfl
    · rw [test_eq_pass_iff, chooseEngine_eq_two_iff, eligible_iff, eligible_iff]
      exact Iff.rfl
  case search =>
    intro s waits
    refine ⟨exec_schedulerSearch_halted, fun hp hr => ?_⟩
    rw [exec_schedulerSearch hp hr]
    refine ⟨?_, fun hw => ?_, ?_⟩
    · intro n i it e before after hsplit hi hit ht hw
      rw [hsplit, searchOrders_append_waits before _ hw, searchOrders_cons_pass after hi hit ht,
        queueItem_eq e hi hit]
    · rw [searchOrders_waits _ (fun m _ => hw m)]
    · intro n i it hi hit ht ha hw
      rw [searchOrders_short (mem_ordersAfter _ n) hi hit ht ha hw, creditShort_of_armed i it ha]
      rfl

end Sys2Proof.Proofs.PrintItems
end
